-- ==== Sys2Proof/Word.lean ====
section
/-! DEFINITION. The plain value types of the block: bytes, 16-bit words, exact fractions, and finite binary32 values. -/

namespace Sys2Proof

/-- `u8`: a byte of the register space, a register-address byte, a phase number, an op code (00_scope R8). -/
abbrev Byte := BitVec 8

/-- A 16-bit pair as read: `u16`, or the bit pattern of an `i16` (00_scope R8, 30_encoding R61). -/
abbrev Word := BitVec 16

/-- An exact rational `num / den` (00_scope R8: "Every formula written with + - * / over Z or Q is exact").
The denominator of every fraction the model builds is positive. It is kept unreduced, so that Lean's kernel can compute with it. -/
structure Frac where
  num : Int
  den : Nat
  deriving DecidableEq, Repr

/-- `f32`: a finite IEEE 754 binary32 value (00_scope R8). `mag` is the lower 31 bits of the binary32 word:
the biased exponent (0..254) followed by the 23 fraction bits. Infinities and NaNs have no representation, since the block
"can produce" none (10_state R16, 41_converter R109; log 3, DESIGN CHOICE). -/
structure F32 where
  neg : Bool
  mag : Fin 0x7F800000
  deriving DecidableEq, Repr, Inhabited

end Sys2Proof
end

