-- ==== Sys2Proof/Config.lean ====
section
/-! DEFINITION. The configuration record `CFG` of 00_scope R6, the shapes of the environment's choices (20_memory R52, 60_exceptions R170),
and the free values: constants without a body, so that nothing can be proved of what they are. -/

namespace Sys2Proof

/-- The numerics record a configuration selects (41_converter R108; 93 U3 treats `NUM` as a parameter). -/
inductive NumKind where
  /-- The spec's default: the exact rational, rounded once to binary32 (92 D11). -/
  | oneRounding
  /-- The variant 93 U3 writes out: every operation rounded to binary32, in the written order. -/
  | perOperation
  /-- Any other numerics: of it only that it is a function of its operands is known (41_converter R108; log 2). -/
  | implementation
  deriving DecidableEq, Repr, Inhabited

/-- The configuration record `CFG`, every field of 00_scope R6 but the two of kind `doc`, whose values the source fixes
(`Cfg.satThreshold`, `Cfg.cycleS`). The defaults are those of R6; R6 marks the addresses, the mask and the two configuration bytes
"from general knowledge" (log 20, PRESUMED), and no rule depends on them. DESIGN CHOICE: `DWELL_S` and `TICK_HZ` are natural numbers, where
R6 asks only `TICK_HZ >= 1` and R7 only that the products be positive integers (log 21); `AUTOINC` is any byte (log 22). -/
structure Cfg where
  devAddr      : Nat  := 0x5F
  autoinc      : Byte := 0x80
  aAvconf      : Byte := 0x10
  aCtrl        : Byte := 0x20
  aHeater      : Byte := 0x21
  heaterMask   : Byte := 0x02
  aHum         : Byte := 0x28
  aTemp        : Byte := 0x2A
  aH0          : Byte := 0x30
  aH1          : Byte := 0x31
  aT0          : Byte := 0x32
  aT1          : Byte := 0x33
  aTmsb        : Byte := 0x35
  aH2          : Byte := 0x36
  aH3          : Byte := 0x3A
  aT2          : Byte := 0x3C
  aT3          : Byte := 0x3E
  avconfValue  : Byte := 0x1B
  ctrlValue    : Byte := 0x81
  dwellS       : Nat  := 30
  heaterMaxIter : Nat := 3
  tickHz       : Nat  := 1
  num          : NumKind := .oneRounding
  deriving DecidableEq, Repr, Inhabited

/-- `CFG.SAT_THRESHOLD`, %RH: 95, fixed by the source (00_scope R6, kind `doc`). -/
abbrev Cfg.satThreshold (_ : Cfg) : Nat := 95

/-- `CFG.CYCLE_S`, seconds: 10, fixed by the source (00_scope R6, kind `doc`). -/
abbrev Cfg.cycleS (_ : Cfg) : Nat := 10

/-- An asynchronous input at one point of a run: none, external termination, or reset (10_state R31). -/
inductive Async where
  | none
  | term
  | reset
  deriving DecidableEq, Repr, Inhabited

/-- Everything the environment chooses about one bus transaction (20_memory R52, 60_exceptions R170; log 5). -/
structure BusAnswer where
  /-- `TERM` or `RESET` taken just before the request is issued. -/
  before : Async := .none
  /-- What the environment writes into the device's cells before the transaction: new samples, another master (20_memory R53). -/
  pokes  : List (Nat × Byte) := []
  /-- `Ok` or `Err`. -/
  ok     : Bool := true
  /-- The bytes a read answered `Ok` returns; `none` for the cells' content. A wrong count makes the answer an `Err` (20_memory R42). -/
  bytes  : Option (List Byte) := none
  /-- What a read does to the device's cells besides answering: "Side effects of reads: the source names none" (20_memory R49, 91 N8), so
  they are the environment's choice. Those of a write need no field of their own: they are `pokes` just before it. -/
  effects : List (Nat × Byte) := []
  /-- Whether the device cell takes the byte of a write, whatever the answer (20_memory R43, premise P2 of R53). -/
  took   : Bool := true
  /-- `TERM` or `RESET` taken just after the response. -/
  after  : Async := .none
  deriving DecidableEq, Repr, Inhabited

/-- Everything the environment chooses about one sink request (10_state R30, 93 U13; log 15). -/
structure SinkAnswer where
  before : Async := .none
  ok     : Bool := true
  /-- What the sink holds after an `Err`: `none` for its old content, else any text. -/
  left   : Option (List Byte) := none
  after  : Async := .none
  deriving DecidableEq, Repr, Inhabited

/-- Whether, and after how many ticks, a wait is cut short by `TERM` or `RESET` (60_exceptions R170, R175). -/
structure WaitBreak where
  what : Async := .none
  tick : Nat := 0
  deriving DecidableEq, Repr, Inhabited

/-- FREE VALUE (log 5): the asynchronous input between two steps, when the state's list names none. -/
opaque Config.freeEvent : Nat → Async
/-- FREE VALUE (log 5): the answer of a bus transaction, when the state's list names none. -/
opaque Config.freeBus : Nat → BusAnswer
/-- FREE VALUE (log 5): the answer of a sink request, when the state's list names none. -/
opaque Config.freeSink : Nat → SinkAnswer
/-- FREE VALUE (log 5): what happens inside a wait, when the state's list names none. -/
opaque Config.freeWait : Nat → WaitBreak
/-- FREE VALUE (log 6): what a device cell holds that nothing has written since the model's reset state (70 R191, 91 N12). -/
opaque Config.devCell : Nat → Byte

/-- FREE VALUE (log 2): `NUM.hum` of an unnamed numerics, a function of the sample and `h0`, `h1`, `h2`, `h3`. -/
opaque Config.implHum : Nat → Nat → Nat → Int → Int → F32
/-- FREE VALUE (log 2): `NUM.tc` of an unnamed numerics, a function of the signed sample and `t0`, `t1`, `t2`, `t3`. -/
opaque Config.implTc : Int → Nat → Nat → Int → Int → F32
/-- FREE VALUE (log 2): `NUM.tf` of an unnamed numerics. -/
opaque Config.implTf : F32 → F32
/-- FREE VALUE (log 19): what `rn32` gives where the result would be beyond the largest finite binary32 value. -/
opaque Config.beyondRange : Frac → F32
/-- FREE VALUE (log 2): `NUM.fmt2` of an unnamed numerics. -/
opaque Config.implFmt2 : F32 → List Byte

end Sys2Proof
end

