-- ==== Sys2Proof/Machine/Numerics.lean ====
section
/-! DEFINITION. Exact rational arithmetic, rounding to binary32, the conversion functions of 41_converter, the record format's decimal
text (30_encoding R66), and the numerics records `NUM` (41_converter R108, 93 U3). -/

namespace Sys2Proof

/-- An integer as a fraction. -/
def Frac.ofInt (n : Int) : Frac := ⟨n, 1⟩

/-- Exact sum. -/
def Frac.add (a b : Frac) : Frac := ⟨a.num * b.den + b.num * a.den, a.den * b.den⟩

/-- Exact difference. -/
def Frac.sub (a b : Frac) : Frac := ⟨a.num * b.den - b.num * a.den, a.den * b.den⟩

/-- Exact product. -/
def Frac.mul (a b : Frac) : Frac := ⟨a.num * b.num, a.den * b.den⟩

/-- Exact quotient; the divisor is never zero where the block divides (41_converter R103). -/
def Frac.div (a b : Frac) : Frac := ⟨a.num * b.den * b.num.sign, a.den * b.num.natAbs⟩

/-- Exact comparison `a < b` (denominators positive). -/
def Frac.lt (a b : Frac) : Bool := decide (a.num * b.den < b.num * a.den)

/-- The rational number a fraction stands for. -/
def Frac.toRat (a : Frac) : ℚ := (a.num : ℚ) / (a.den : ℚ)

/-- The natural number nearest to `n / d`, ties to the even one (00_scope R8, 30_encoding R66). -/
def roundHalfEven (n d : Nat) : Nat :=
  if 2 * (n % d) < d then n / d
  else if d < 2 * (n % d) then n / d + 1
  else n / d + (n / d) % 2

/-- The `mag` of the largest finite binary32 value. -/
def F32.maxMag : Nat := 0x7F7FFFFF

/-- The 31 magnitude bits of the binary32 value nearest to `a / d`, ties to even. With `2^149 * a / d` the quotient in units of the
smallest subnormal, `k` is the number of low bits its binade cannot hold; `k * 2^23` plus the rounded significand is the magnitude
word, a carry out of the significand included. -/
def F32.roundMag (a d : Nat) : Nat :=
  let k := Nat.log2 (a * 2 ^ 149 / d) - 23
  k * 2 ^ 23 + roundHalfEven (a * 2 ^ 149) (d * 2 ^ k)

/-- A binary32 value from its sign and magnitude bits (of magnitudes up to the largest finite one). -/
def F32.make (neg : Bool) (mag : Nat) : F32 :=
  ⟨neg, ⟨min mag F32.maxMag, Nat.lt_of_le_of_lt (Nat.min_le_right _ _) (by decide)⟩⟩

/-- `rn32(q)`: the binary32 value nearest to `q`, ties to the value with an even significand (00_scope R8). A zero result is +0
(41_converter R109). Beyond the largest finite value, where the spec states no result ("overflow ... never arise[s]"), the result is a free
value (log 19). -/
def rn32 (q : Frac) : F32 :=
  let m := F32.roundMag q.num.natAbs q.den
  if m ≤ F32.maxMag then F32.make (decide (q.num < 0) && decide (m ≠ 0)) m else Config.beyondRange q

/-- The biased exponent of the magnitude word. -/
def F32.exponent (x : F32) : Nat := x.mag.val / 2 ^ 23

/-- The fraction bits of the magnitude word. -/
def F32.fraction (x : F32) : Nat := x.mag.val % 2 ^ 23

/-- The significand in units of `2^-150` times two to the (effective) exponent: a subnormal has no hidden bit and exponent 1. -/
def F32.scaled (x : F32) : Nat :=
  if x.exponent = 0 then x.fraction * 2 else (2 ^ 23 + x.fraction) * 2 ^ x.exponent

/-- `val(x)`: the exact rational value of `x` (00_scope R8). -/
def F32.val (x : F32) : Frac :=
  ⟨if x.neg then -(x.scaled : Int) else (x.scaled : Int), 2 ^ 150⟩

/-- The 32-bit binary32 word of a value. -/
def F32.bits (x : F32) : BitVec 32 := BitVec.ofNat 32 (x.mag.val + if x.neg then 2 ^ 31 else 0)

/-- The value of a binary32 word, if it is finite. -/
def F32.ofBits (w : BitVec 32) : Option F32 :=
  if h : w.toNat % 2 ^ 31 < 0x7F800000 then some ⟨decide (2 ^ 31 ≤ w.toNat), ⟨w.toNat % 2 ^ 31, h⟩⟩ else none

/-- The value +0. -/
def F32.zero : F32 := F32.make false 0

/-- The value 100.0 (0x42C80000). -/
def F32.hundred : F32 := F32.make false 0x42C80000

/-- `hum_q`, humidity in %RH, exact (41_converter R104): `(h1 - h0) * (raw - h2) / (h3 - h2) + h0`. -/
def humQ (raw : Nat) (h0 h1 : Nat) (h2 h3 : Int) : Frac :=
  (((Frac.ofInt h1).sub (Frac.ofInt h0)).mul ((Frac.ofInt raw).sub (Frac.ofInt h2))).div ((Frac.ofInt h3).sub (Frac.ofInt h2))
    |>.add (Frac.ofInt h0)

/-- `tc_q`, degrees Celsius, exact (41_converter R105): `((t1 - t0) / 8) * (rawS - t2) / (t3 - t2) + (t0 / 8)`. -/
def tcQ (rawS : Int) (t0 t1 : Nat) (t2 t3 : Int) : Frac :=
  ((((Frac.ofInt t1).sub (Frac.ofInt t0)).div (Frac.ofInt 8)).mul ((Frac.ofInt rawS).sub (Frac.ofInt t2))).div
      ((Frac.ofInt t3).sub (Frac.ofInt t2))
    |>.add ((Frac.ofInt t0).div (Frac.ofInt 8))

/-- `tf_q(c) = c * 9/5 + 32`, degrees Fahrenheit (41_converter R107). -/
def tfQ (c : Frac) : Frac := (c.mul ⟨9, 5⟩).add (Frac.ofInt 32)

/-- `clamp100(u)`: 0.0 below 0, 100.0 above 100, else `u` (41_converter R112). -/
def clamp100 (u : F32) : F32 :=
  if u.val.lt (Frac.ofInt 0) then F32.zero
  else if (Frac.ofInt 100).lt u.val then F32.hundred
  else u

/-- Each binary32 operation of the per-operation variant: the exact result, rounded (93 U3). -/
def F32.mulRn (a b : F32) : F32 := rn32 (a.val.mul b.val)
/-- Division, rounded (93 U3). -/
def F32.divRn (a b : F32) : F32 := rn32 (a.val.div b.val)
/-- Addition, rounded (93 U3). -/
def F32.addRn (a b : F32) : F32 := rn32 (a.val.add b.val)
/-- An integer converted to binary32, exact below 2^24 (93 U3). -/
def F32.ofIntRn (n : Int) : F32 := rn32 (Frac.ofInt n)

/-- `hum_perop` (93 U3). -/
def humPerOp (raw : Nat) (h0 h1 : Nat) (h2 h3 : Int) : F32 :=
  (((F32.ofIntRn ((h1 : Int) - h0)).mulRn (F32.ofIntRn ((raw : Int) - h2))).divRn (F32.ofIntRn (h3 - h2))).addRn (F32.ofIntRn h0)

/-- `tc_perop` (93 U3). -/
def tcPerOp (rawS : Int) (t0 t1 : Nat) (t2 t3 : Int) : F32 :=
  ((((F32.ofIntRn ((t1 : Int) - t0)).divRn (F32.ofIntRn 8)).mulRn (F32.ofIntRn (rawS - t2))).divRn (F32.ofIntRn (t3 - t2))).addRn
    ((F32.ofIntRn t0).divRn (F32.ofIntRn 8))

/-- `tf_perop` (93 U3): the constant is `rn32(9/5)`. -/
def tfPerOp (c : F32) : F32 := (c.mulRn (rn32 ⟨9, 5⟩)).addRn (F32.ofIntRn 32)

/-- The decimal digits of `n`, most significant first, put before `acc`; `fuel` bounds their number. -/
def decimalDigits : Nat → Nat → List Byte → List Byte
  | 0, _, acc => acc
  | fuel + 1, n, acc =>
    let acc := BitVec.ofNat 8 (0x30 + n % 10) :: acc
    if n / 10 = 0 then acc else decimalDigits fuel (n / 10) acc

/-- `fmt2`: two decimals, half to even on the exact value, a minus sign only if the rounded number is negative (30_encoding R66). -/
def fmt2 (x : F32) : List Byte :=
  let n := roundHalfEven (x.scaled * 100) (2 ^ 150)
  (if x.neg && decide (n ≠ 0) then [0x2D] else [])
    ++ decimalDigits (Nat.log2 (n / 100) + 1) (n / 100) []
    ++ [0x2E, BitVec.ofNat 8 (0x30 + n % 100 / 10), BitVec.ofNat 8 (0x30 + n % 10)]

/-- The sink record of three numbers under a given `fmt2`: `%` after the humidity, each line ended by a line feed (R66). -/
def recordText (fmt : F32 → List Byte) (humR tempC tempF : F32) : List Byte :=
  fmt humR ++ [0x25, 0x0A] ++ fmt tempC ++ [0x0A] ++ fmt tempF ++ [0x0A]

/-- `NUM.hum` of the selected numerics record (41_converter R108). -/
def NumKind.hum : NumKind → Nat → Nat → Nat → Int → Int → F32
  | .oneRounding => fun raw h0 h1 h2 h3 => rn32 (humQ raw h0 h1 h2 h3)
  | .perOperation => humPerOp
  | .implementation => Config.implHum

/-- `NUM.tc` of the selected numerics record. -/
def NumKind.tc : NumKind → Int → Nat → Nat → Int → Int → F32
  | .oneRounding => fun rawS t0 t1 t2 t3 => rn32 (tcQ rawS t0 t1 t2 t3)
  | .perOperation => tcPerOp
  | .implementation => Config.implTc

/-- `NUM.tf` of the selected numerics record. -/
def NumKind.tf : NumKind → F32 → F32
  | .oneRounding => fun c => rn32 (tfQ c.val)
  | .perOperation => tfPerOp
  | .implementation => Config.implTf

/-- `NUM.fmt2` of the selected numerics record; 93 U3 changes only the conversions. -/
def NumKind.fmt2 : NumKind → F32 → List Byte
  | .oneRounding => Sys2Proof.fmt2
  | .perOperation => Sys2Proof.fmt2
  | .implementation => Config.implFmt2

end Sys2Proof
end

