-- ==== Sys2Proof/Machine/State.lean ====
section
/-! DEFINITION. The state of the block and of the part of its environment it can observe, as plain data; the reasons a step can stop; the
state after reset. -/

namespace Sys2Proof.Machine

open Sys2Proof

/-- The heater state `HS` (10_state R18), two bits. -/
inductive HeaterState where
  | idle
  | heating
  | cooldown
  /-- The pattern 3, which "never occurs" (R18); a step from it is a model fault (60_exceptions R181 e; log 12). -/
  | pattern3
  deriving DecidableEq, Repr, Inhabited

/-- The calibration register file `CAL` (10_state R13). `none` is the spec's "no value" (R11, R12; log 4). The four count registers hold
the 16 bits of an `i16` and are read through `sext16`. -/
structure CalFile where
  h0 : Option (BitVec 7)  := none
  h1 : Option (BitVec 7)  := none
  h2 : Option Word        := none
  h3 : Option Word        := none
  t0 : Option (BitVec 10) := none
  t1 : Option (BitVec 10) := none
  t2 : Option Word        := none
  t3 : Option Word        := none
  deriving DecidableEq, Repr, Inhabited

/-- The calibration latches `LAT` (10_state R14). -/
structure Latches where
  t0l  : Option Byte := none
  t1l  : Option Byte := none
  tmsb : Option Byte := none
  deriving DecidableEq, Repr, Inhabited

/-- The raw sample registers `RAW` (10_state R15): both hold the 16 bits as read. -/
structure RawFile where
  hum  : Option Word := none
  temp : Option Word := none
  deriving DecidableEq, Repr, Inhabited

/-- The physical-reading registers `PHY` (10_state R16). -/
structure PhyFile where
  humU  : Option F32 := none
  humR  : Option F32 := none
  tempC : Option F32 := none
  tempF : Option F32 := none
  deriving DecidableEq, Repr, Inhabited

/-- The one-bit flags `F` (10_state R20). -/
structure Flags where
  configured : Bool := false
  calValid   : Bool := false
  halted     : Bool := false
  htrUnsafe  : Bool := false
  satUnres   : Bool := false
  term       : Bool := false
  deriving DecidableEq, Repr, Inhabited

/-- The error record: `ERR`, and what a `raise` puts on `LOG` (10_state R23, 30_encoding R72). -/
structure ErrRec where
  code  : Byte := 0x00
  phase : Byte := 0x00
  addr  : Byte := 0xFF
  rw    : Bool := false
  deriving DecidableEq, Repr, Inhabited

/-- The error kinds (60_exceptions R160); the three named `heater…` are the source's `HeaterError`, split by what it says each does (R162). -/
inductive ErrKind where
  | configurationError
  | calibrationError
  | conversionDomainError
  | busIoError
  | heaterEnableFailed
  | heaterDisableFailed
  | heaterSaturationUnresolved
  | outputIoError
  deriving DecidableEq, Repr, Inhabited

/-- The class of an error decides its entry (60_exceptions R164, R165, R166). -/
inductive ErrClass where
  | startup
  | cycleAbort
  | reportOnly
  deriving DecidableEq, Repr

/-- One item of the observable trace, in the notation of 30_encoding R73 (92 D1; log 10). -/
inductive Event where
  /-- `R1 aa -> bb`; `none` is the `!` of an `Err`. -/
  | r1 (dev : Nat) (areg : Byte) (reply : Option Byte)
  /-- `R2 aa -> b0 b1`. -/
  | r2 (dev : Nat) (areg : Byte) (reply : Option (Byte × Byte))
  /-- `W1 aa <- vv`, with whether it was answered `Ok`. -/
  | w1 (dev : Nat) (areg : Byte) (v : Byte) (ok : Bool)
  /-- `SINK <- "…"`, with whether it was answered `Ok`. -/
  | sink (record : List Byte) (ok : Bool)
  /-- `LOG(code, phase, addr, rw)`. -/
  | log (r : ErrRec)
  /-- `wait n`. -/
  | wait (n : Nat)
  deriving DecidableEq, Repr

/-- The device's register cells `DEV.reg` (10_state R26, R27): address and byte, addresses strictly rising, none above 0x7F. A cell not
listed holds a byte nothing has written: its content is the device's own, the free value `Config.devCell` (log 6). -/
abbrev Memory := List Host.Cell

/-- What the block meets at its ports (10_state R27, R31; 20_memory R52): the device's cells, the sink's stored record, and the coming
choices of the environment, oldest first. When a list is empty the choice is the free value of Config at index `draws` (log 5). -/
structure Env where
  dev    : Memory := []
  sink   : Option (List Byte) := none
  events : List Async := []
  bus    : List BusAnswer := []
  sinks  : List SinkAnswer := []
  waits  : List WaitBreak := []
  draws  : Nat := 0
  deriving DecidableEq, Repr, Inhabited

/-- The whole state: the block's registers, the parameter record `CFG` (log 1), the environment and the observable trace. -/
structure State where
  cfg   : Cfg := {}
  ph    : Byte := 0x00
  cal   : CalFile := {}
  lat   : Latches := {}
  raw   : RawFile := {}
  hreg  : Option Byte := none
  phy   : PhyFile := {}
  hs    : HeaterState := .idle
  f     : Flags := {}
  iter  : Byte := 0
  tmr   : Nat := 0
  err   : ErrRec := {}
  env   : Env := {}
  trace : List Event := []
  deriving DecidableEq, Repr

/-- The block right after reset (70_reset_and_hazards R190), under the default configuration of 00_scope R6, before any choice of the
environment and with nothing known of the device's cells or the sink (70 R191). -/
def State.reset : State := {}

/-- The registers that can hold no value (10_state R11). -/
inductive RegName where
  | calH0 | calH1 | calH2 | calH3 | calT0 | calT1 | calT2 | calT3
  | latT0l | latT1l | latTmsb
  | rawHum | rawTemp
  | phyHumU | phyHumR | phyTempC | phyTempF
  deriving DecidableEq, Repr

/-- Why the block stops. All but `terminated` and `noSuchCell` are the model faults of 60_exceptions R181. -/
inductive Fault where
  /-- Raised by any op that reads a register holding no value (R181 a, 10_state R11). Safe: no run from reset reaches it. -/
  | noValue (r : RegName)
  /-- Raised by a step whose `PH` is outside the legal set (R181 b, 10_state R17). Safe: unreachable from reset. -/
  | badPhase (ph : Byte)
  /-- Raised by `CVHUM` and `CVTC` with `F.cal_valid` = 0 (R181 d, 70 R200). Safe: unreachable from reset. -/
  | calNotValid
  /-- Raised by `CVHUM` with `h3 = h2` and by `CVTC` with `t3 = t2` (R181 d). Safe: unreachable from reset. -/
  | zeroDenominator
  /-- Raised by a step with `HS` = 3 (R181 e). Safe: unreachable from reset. -/
  | badHeaterState
  /-- Raised by a step after `TERM` when no `RESET` comes: "if `F.term` = 1 there is no step" (43_pollloop R142; log 8). Safe. -/
  | terminated
  /-- Raised by a bus op whose configured address is outside 0x00..0x7F (20_memory R42; log 14). Safe: a step refuses such a `CFG`. -/
  | noSuchCell (a : Byte)
  deriving DecidableEq, Repr

/-- What the model refuses to run. -/
inductive Refusal where
  /-- Raised by an arm of `exec` for an op without a meaning. Safe. No arm uses it. -/
  | notModelled (mnemonic : String)
  /-- Raised by a step under a configuration that breaks 00_scope R7 (60_exceptions R181 f). Safe: no such block exists. -/
  | badConfig
  /-- Raised by a step whose microprogram names a code outside the 27 (30_encoding R69, 60_exceptions R181 c). Safe: the microprogram
  holds none. -/
  | badCode (code : Byte)
  deriving DecidableEq, Repr

/-- The outcome of one op or one step. -/
abbrev Out := Host.Outcome State Fault Refusal

end Sys2Proof.Machine
end

