-- ==== Sys2Proof/Machine/Flags.lean ====
section
/-! DEFINITION. The one-bit flags of 10_state R20 and the two conditions the sequencer branches on. -/

namespace Sys2Proof.Machine

open Sys2Proof

/-- Both configuration writes succeeded (R20). -/
def State.setConfigured (s : State) : State := { s with f := { s.f with configured := true } }

/-- The calibration may be used (R20). -/
def State.setCalValid (s : State) : State := { s with f := { s.f with calValid := true } }

/-- A startup error stopped the block (R20). -/
def State.setHalted (s : State) : State := { s with f := { s.f with halted := true } }

/-- The last attempt to clear the heater bit failed, or succeeded (R20). -/
def State.setHtrUnsafe (s : State) (b : Bool) : State := { s with f := { s.f with htrUnsafe := b } }

/-- This cycle's intervention ended unresolved, or a new check began (R20). -/
def State.setSatUnres (s : State) (b : Bool) : State := { s with f := { s.f with satUnres := b } }

/-- `hum_u > 95`: strict, on the unclamped value (42_heater R121, R126, R128). -/
def overThreshold (c : Cfg) (u : F32) : Bool := (Frac.ofInt c.satThreshold).lt u.val

/-- `h3 = h2` or `t3 = t2`: a denominator is zero (40_calibration R95). -/
def denominatorZero (h2 h3 t2 t3 : Word) : Bool := decide (h3 = h2) || decide (t3 = t2)

end Sys2Proof.Machine
end

