-- ==== Sys2Proof/Machine/Memory.lean ====
section
/-! DEFINITION. The device's register cells `DEV.reg` (10_state R26, R27): reading, writing, the canonical form. -/

namespace Sys2Proof.Machine

open Sys2Proof

/-- The number of cells: register addresses are 0x00..0x7F (10_state R26). -/
def Memory.size : Nat := 128

/-- The byte listed for a cell, if anything has written it. -/
def Memory.read : Memory → Nat → Option Byte
  | [], _ => none
  | (b, v) :: rest, a => if b = a then some v else Memory.read rest a

/-- The content of a cell: what was last written, else the device's own unknown byte (70 R191, 91 N12; log 6). -/
def Memory.cell (m : Memory) (a : Nat) : Byte := (Memory.read m a).getD (Config.devCell a)

/-- Put a byte at an address, keeping the addresses strictly rising. -/
def Memory.insert : Memory → Nat → Byte → Memory
  | [], a, v => [(a, v)]
  | (b, w) :: rest, a, v =>
    if a < b then (a, v) :: (b, w) :: rest
    else if a = b then (a, v) :: rest
    else (b, w) :: Memory.insert rest a v

/-- Write a cell. An address outside 0x00..0x7F names no cell, and nothing changes. -/
def Memory.write (m : Memory) (a : Nat) (v : Byte) : Memory :=
  if a < Memory.size then Memory.insert m a v else m

/-- Several writes, in order. -/
def Memory.writeAll (m : Memory) : List (Nat × Byte) → Memory
  | [] => m
  | (a, v) :: rest => Memory.writeAll (Memory.write m a v) rest

/-- Strictly rising from `lo` on, and inside the address space. -/
def Memory.wfFrom : Nat → Memory → Bool
  | _, [] => true
  | lo, (a, _) :: rest => decide (lo ≤ a) && decide (a < Memory.size) && Memory.wfFrom (a + 1) rest

/-- The canonical form. An unlisted cell has no listed value, so no entry can equal what an unlisted cell reads as. -/
def Memory.wf (m : Memory) : Bool := Memory.wfFrom 0 m

end Sys2Proof.Machine
end

