-- ==== Sys2Proof/Machine/Operands.lean ====
section
/-! DEFINITION. Operand forms: reading a register that may hold no value, the assembly of bytes into fields (30_encoding R68), and the
signed view of 16 bits. -/

namespace Sys2Proof.Machine

open Sys2Proof

/-- `x[r]` (00_scope R8): go on with the value, or the model fault of a register that holds none (10_state R11, 60_exceptions R181 a). -/
def need {α : Type} (r : RegName) (v : Option α) (k : α → Out) : Out :=
  match v with
  | some x => k x
  | none => .fault (.noValue r)

/-- `sext_16(v)`: `v` below 32768, else `v - 65536` (41_converter R100). -/
def sext16 (v : Word) : Int := if v.toNat < 32768 then (v.toNat : Int) else (v.toNat : Int) - 65536

/-- `halve(b) = b >> 1 = b[7:1]` (41_converter R101, 30_encoding R63). -/
def halve (b : Byte) : BitVec 7 := b.extractLsb' 1 7

/-- `unpack10(hi2, lo8) = hi2 * 256 + lo8` (41_converter R102). -/
def unpack10 (hi2 lo8 : Nat) : Nat := hi2 * 256 + lo8

/-- `t0 = (s & 0x03) * 256 + t0l` (40_calibration R91, 30_encoding R64). -/
def packedT0 (s t0l : Byte) : BitVec 10 := BitVec.ofNat 10 ((s &&& 0x03).toNat * 256 + t0l.toNat)

/-- `t1 = (s & 0x0C) * 64 + t1l` (40_calibration R91, 30_encoding R64). -/
def packedT1 (s t1l : Byte) : BitVec 10 := BitVec.ofNat 10 ((s &&& 0x0C).toNat * 64 + t1l.toNat)

/-- Format P: `b0 + 256 * b1`, the byte at the lower address low (20_memory R42, R45, 30_encoding R61). -/
def pairWord (b0 b1 : Byte) : Word := BitVec.ofNat 16 (b0.toNat + 256 * b1.toNat)

/-- Format C: the byte with the heater bit set, the other bits as read (42_heater R122, 30_encoding R65). -/
def heaterOn (mask b : Byte) : Byte := b ||| mask

/-- Format C: the byte with the heater bit clear, the other bits as read (42_heater R125). -/
def heaterOff (mask b : Byte) : Byte := b &&& ~~~mask

/-- Format A: the register address of an address byte, bits 6:0 (30_encoding R60). -/
def aregAddress (a : Byte) : BitVec 7 := a.extractLsb' 0 7

/-- Format A: the auto-increment flag of an address byte, bit 7 (30_encoding R60). -/
def aregInc (a : Byte) : Bool := a.getLsbD 7

/-- The encoding of `HS` in two bits (10_state R18). -/
def HeaterState.code : HeaterState → BitVec 2
  | .idle => 0
  | .heating => 1
  | .cooldown => 2
  | .pattern3 => 3

/-- Format E: `code ++ phase ++ addr ++ rw`, 25 bits (30_encoding R72). -/
def ErrRec.pack (r : ErrRec) : BitVec 25 := r.code ++ r.phase ++ r.addr ++ BitVec.ofBool r.rw

end Sys2Proof.Machine
end

