-- ==== Sys2Proof/Machine/Params.lean ====
section
/-! DEFINITION. The constraints of 00_scope R7 on a configuration, each under its own name, and the quantities the ops derive from `CFG`. -/

namespace Sys2Proof

/-- The fourteen register addresses (00_scope R6). -/
def Cfg.bases (c : Cfg) : List Byte :=
  [c.aAvconf, c.aCtrl, c.aHeater, c.aHum, c.aTemp, c.aH0, c.aH1, c.aT0, c.aT1, c.aTmsb, c.aH2, c.aH3, c.aT2, c.aT3]

/-- The six addresses that are the low byte of a pair (00_scope R7). -/
def Cfg.pairBases (c : Cfg) : List Byte :=
  [c.aHum, c.aTemp, c.aH2, c.aH3, c.aT2, c.aT3]

/-- The calibration cells: the five bytes and the four pairs (10_state R24). -/
def Cfg.calCells (c : Cfg) : List Byte :=
  [c.aH0, c.aH1, c.aT0, c.aT1, c.aTmsb, c.aH2, c.aH2 + 1, c.aH3, c.aH3 + 1, c.aT2, c.aT2 + 1, c.aT3, c.aT3 + 1]

/-- R7: "every register address `A_*` is in 0x00..0x7F". -/
def Cfg.addressesInRange (c : Cfg) : Bool := c.bases.all fun a => decide (a.toNat ≤ 0x7F)

/-- R7: "the fourteen register addresses are pairwise distinct". -/
def Cfg.basesDistinct (c : Cfg) : Bool := decide c.bases.Nodup

/-- R7: for each pair base `A`, "the address `A+1` is also in 0x00..0x7F and is not any other base". -/
def Cfg.pairsFit (c : Cfg) : Bool :=
  c.pairBases.all fun a => decide (a.toNat + 1 ≤ 0x7F) && !(c.bases.contains (a + 1))

/-- R7: "`HEATER_MASK` has exactly one bit set". -/
def Cfg.maskOneHot (c : Cfg) : Bool :=
  (List.range 8).any fun k => decide (c.heaterMask = BitVec.ofNat 8 (2 ^ k))

/-- R7: "`HEATER_MAX_ITER` is in 1..255". -/
def Cfg.iterInRange (c : Cfg) : Bool := decide (1 ≤ c.heaterMaxIter) && decide (c.heaterMaxIter ≤ 255)

/-- Ticks of the heater dwell (42_heater R124). -/
def Cfg.dwellTicks (c : Cfg) : Nat := c.dwellS * c.tickHz

/-- Ticks of the inter-cycle sleep (43_pollloop R151). -/
def Cfg.cycleTicks (c : Cfg) : Nat := c.cycleS * c.tickHz

/-- R7: "`DWELL_S * TICK_HZ` and `CYCLE_S * TICK_HZ` are positive integers"; integers they are by the fields' types (log 21). -/
def Cfg.delaysPositive (c : Cfg) : Bool := decide (0 < c.dwellTicks) && decide (0 < c.cycleTicks)

/-- The configuration meets every constraint of R7. A step refuses one that does not (60_exceptions R181 f). R7 names no constraint on
`AUTOINC`, so any byte is accepted (log 22, DESIGN CHOICE). -/
def Cfg.ok (c : Cfg) : Bool :=
  c.addressesInRange && c.basesDistinct && c.pairsFit && c.maskOneHot && c.iterInRange && c.delaysPositive

/-- Format A of a two-byte read: the address byte with the auto-increment flag (20_memory R42, 30_encoding R60). Whatever the flag's bits,
the cells read are `a` and `a + 1` (log 22). -/
def Cfg.incByte (c : Cfg) (a : Byte) : Byte := a ||| c.autoinc

end Sys2Proof
end

