-- ==== Sys2Proof/Machine/Ops.lean ====
section
/-! DEFINITION. The named operations every op is built from: the phase, the trace, `TERM` and `RESET`, the environment's choices, the
access primitives of 20_memory, the sink request, the wait, and raising an error. -/

namespace Sys2Proof.Machine

open Sys2Proof

/-! ### The phase, the heater state, the trace -/

/-- `PH <- p` (00_scope R8, 10_state R17). -/
def State.goto (s : State) (p : Byte) : State := { s with ph := p }

/-- `HS <- h` (10_state R18). -/
def State.setHs (s : State) (h : HeaterState) : State := { s with hs := h }

/-- Put one item on the observable trace (92 D1; log 10). -/
def State.record (s : State) (e : Event) : State := { s with trace := s.trace ++ [e] }

/-! ### Losing values -/

/-- All eight `CAL` registers and the three latches go to no value (40_calibration R96, 60_exceptions R164). -/
def State.invalidateCal (s : State) : State := { s with cal := {}, lat := {} }

/-- `RAW`, `PHY` and `HREG` go to no value (43_pollloop R151, R152). -/
def State.invalidateCycle (s : State) : State := { s with raw := {}, phy := {}, hreg := none }

/-! ### Asynchronous inputs -/

/-- Taking `TERM` "does exactly `F.term <- 1`" (60_exceptions R170). -/
def State.takeTerm (s : State) : State := { s with f := { s.f with term := true } }

/-- Taking `RESET`: every register of the block at its reset value (70 R190); the environment is not touched (R191), and neither are
the configuration and what was observed (log 16). -/
def State.takeReset (s : State) : State := { State.reset with cfg := s.cfg, env := s.env, trace := s.trace }

/-- A point of a step at which `TERM` or `RESET` may be taken: either ends the step there, else it goes on (60_exceptions R170). -/
def State.pass (s : State) (e : Async) (k : State → State) : State :=
  match e with
  | .none => k s
  | .term => s.takeTerm
  | .reset => s.takeReset

/-! ### The environment's choices -/

/-- The asynchronous input between two steps. -/
def State.nextEvent (s : State) : Async := s.env.events.headD (Config.freeEvent s.env.draws)

/-- The answer of the next bus transaction. -/
def State.nextBus (s : State) : BusAnswer := s.env.bus.headD (Config.freeBus s.env.draws)

/-- The answer of the next sink request. -/
def State.nextSink (s : State) : SinkAnswer := s.env.sinks.headD (Config.freeSink s.env.draws)

/-- What happens inside the next wait. -/
def State.nextWait (s : State) : WaitBreak := s.env.waits.headD (Config.freeWait s.env.draws)

/-- The choice between two steps has been made. -/
def State.drawEvent (s : State) : State :=
  { s with env := { s.env with events := s.env.events.tail, draws := s.env.draws + 1 } }

/-- The choice of a bus answer has been made. -/
def State.drawBus (s : State) : State :=
  { s with env := { s.env with bus := s.env.bus.tail, draws := s.env.draws + 1 } }

/-- The choice of a sink answer has been made. -/
def State.drawSink (s : State) : State :=
  { s with env := { s.env with sinks := s.env.sinks.tail, draws := s.env.draws + 1 } }

/-- The choice inside a wait has been made. -/
def State.drawWait (s : State) : State :=
  { s with env := { s.env with waits := s.env.waits.tail, draws := s.env.draws + 1 } }

/-- The device's cells become `m`. -/
def State.setDev (s : State) (m : Memory) : State := { s with env := { s.env with dev := m } }

/-- The sink's stored record becomes `t`. -/
def State.setSink (s : State) (t : Option (List Byte)) : State := { s with env := { s.env with sink := t } }

/-! ### Bus access -/

/-- The reply of a one-byte read of cell `a`: the cell's content, or the one byte the environment chose; `none` is `Err`. Any other
count of bytes is `Err` (20_memory R42, R52). -/
def replyByte (an : BusAnswer) (m : Memory) (a : Nat) : Option Byte :=
  if an.ok then
    match an.bytes with
    | none => some (Memory.cell m a)
    | some [b] => some b
    | some _ => none
  else none

/-- The reply of a two-byte auto-increment read: the cells `a` and `a + 1` in this order, or the two bytes the environment chose
(20_memory R42, R48, R52). -/
def replyPair (an : BusAnswer) (m : Memory) (a : Nat) : Option (Byte × Byte) :=
  if an.ok then
    match an.bytes with
    | none => some (Memory.cell m a, Memory.cell m (a + 1))
    | some [b0, b1] => some (b0, b1)
    | some _ => none
  else none

/-- The cells after a write of `v` to `a`: whatever the answer, the cell may have taken the byte or not (20_memory R43, premise P2). -/
def writtenCells (an : BusAnswer) (m : Memory) (a : Nat) (v : Byte) : Memory :=
  if an.took then Memory.write m a v else m

/-- One bus transaction (20_memory R40, R51): a point for `TERM` or `RESET`; the environment's own changes to the device; the transaction
itself, which gives a reply and the cells after it; its record on the trace; another point for `TERM` or `RESET`; then `k` with the
reply. It always completes (R44). -/
def State.transact {α : Type} (s : State) (carry : BusAnswer → Memory → α × Memory) (event : α → Event)
    (k : α → State → State) : State :=
  let an := s.nextBus
  s.drawBus.pass an.before fun s =>
    let result := carry an (Memory.writeAll s.env.dev an.pokes)
    ((s.setDev result.2).record (event result.1)).pass an.after (k result.1)

/-- The device's cells after a read: as they were, but for the read's side effects, if the device has any (20_memory R49; log 5). -/
def readCells (an : BusAnswer) (m : Memory) : Memory := Memory.writeAll m an.effects

/-- `MemRead(a, 1)` (20_memory R42). -/
def State.memRead1 (s : State) (a : Byte) (k : Option Byte → State → State) : State :=
  s.transact (fun an m => (replyByte an m a.toNat, readCells an m)) (fun r => .r1 s.cfg.devAddr a r) k

/-- `MemRead(a, 2)`: the address byte carries the auto-increment flag; the value is little-endian (20_memory R42, R45). -/
def State.memRead2 (s : State) (a : Byte) (k : Option Word → State → State) : State :=
  s.transact (fun an m => (replyPair an m a.toNat, readCells an m)) (fun r => .r2 s.cfg.devAddr (s.cfg.incByte a) r)
    fun r => k (r.map fun b => pairWord b.1 b.2)

/-- `MemWrite(a, 1, v)`: `true` is `Ok` (20_memory R43). -/
def State.memWrite1 (s : State) (a v : Byte) (k : Bool → State → State) : State :=
  s.transact (fun an m => (an.ok, writtenCells an m a.toNat v)) (fun ok => .w1 s.cfg.devAddr a v ok) k

/-- An op whose transactions reach `n` cells from `a` on runs only if they are register addresses (20_memory R42, R43; log 14). -/
def onCells (a : Byte) (n : Nat) (o : Out) : Out :=
  if a.toNat + n ≤ Memory.size then o else .fault (.noSuchCell a)

/-! ### The sink -/

/-- One sink request (10_state R30, 43_pollloop R150): on `Ok` the sink holds the record; on `Err` its old content or any other (93 U13). -/
def State.sinkRequest (s : State) (text : List Byte) (k : Bool → State → State) : State :=
  let an := s.nextSink
  s.drawSink.pass an.before fun s =>
    ((s.setSink (if an.ok then some text else an.left.or s.env.sink)).record (.sink text an.ok)).pass an.after (k an.ok)

/-! ### Waiting -/

/-- One `TICK`: "advances `TMR`", which is decremented "while non-zero" (10_state R22, R33). -/
def State.tick (s : State) : State := { s with tmr := s.tmr - 1 }

/-- `n` ticks. -/
def State.ticks : Nat → State → State
  | 0, s => s
  | n + 1, s => State.ticks n s.tick

/-- `wait(n)` with `TMR` already loaded (60_exceptions R175): the ticks pass and are recorded, then `k`; `TERM` or `RESET` may be taken
after any number of ticks up to all of them (R170; log 9). -/
def State.wait (s : State) (k : State → State) : State :=
  let w := s.nextWait
  let n := if w.what = .none then s.tmr else min w.tick s.tmr
  ((s.drawWait.ticks n).record (.wait n)).pass w.what k

/-- `TMR <- n` (10_state R22). -/
def State.loadTimer (s : State) (n : Nat) : State := { s with tmr := n }

/-! ### Raising an error -/

/-- The 8-bit error codes (60_exceptions R160). -/
def ErrKind.code : ErrKind → Byte
  | .configurationError => 0x10
  | .calibrationError => 0x20
  | .conversionDomainError => 0x21
  | .busIoError => 0x30
  | .heaterEnableFailed => 0x40
  | .heaterDisableFailed => 0x41
  | .heaterSaturationUnresolved => 0x42
  | .outputIoError => 0x50

/-- The classes of the errors (60_exceptions R160, R162). -/
def ErrKind.cls : ErrKind → ErrClass
  | .configurationError | .calibrationError | .conversionDomainError => .startup
  | .busIoError | .heaterDisableFailed | .outputIoError => .cycleAbort
  | .heaterEnableFailed | .heaterSaturationUnresolved => .reportOnly

/-- Startup entry (60_exceptions R164): the calibration errors discard `CAL` and `LAT`; `PH <- 0x3F`. -/
def State.startupEntry (s : State) (e : ErrKind) : State :=
  match e with
  | .calibrationError | .conversionDomainError => s.invalidateCal.goto 0x3F
  | _ => s.goto 0x3F

/-- Cycle-abort entry (60_exceptions R165): `HS <- Idle`, `PH <- 0x1E`. -/
def State.cycleAbortEntry (s : State) : State := (s.setHs .idle).goto 0x1E

/-- The entry of an error's class (60_exceptions R164, R165); report only is nothing more (R166). -/
def State.enter (s : State) (e : ErrKind) : State :=
  match e.cls with
  | .startup => s.startupEntry e
  | .cycleAbort => s.cycleAbortEntry
  | .reportOnly => s

/-- `ERR` and `LOG` get the record of the error (60_exceptions R163; 10_state R23, R32). -/
def State.report (s : State) (e : ErrKind) (addr : Byte) (rw : Bool) : State :=
  let r : ErrRec := { code := e.code, phase := s.ph, addr := addr, rw := rw }
  ({ s with err := r }).record (.log r)

/-- `raise E(addr, rw)`, the one way an error is taken: the report, then the entry of the class (60_exceptions R163). Nothing is saved
for a return, and no op returns (R174). -/
def State.raise (s : State) (e : ErrKind) (addr : Byte) (rw : Bool) : State := (s.report e addr rw).enter e

end Sys2Proof.Machine
end

