-- ==== Sys2Proof/Machine/Calibrate.lean ====
section
/-! DEFINITION. The calibration ops of 40_calibration R84 to R95: family 1. -/

namespace Sys2Proof.Machine

open Sys2Proof

/-- A one-byte calibration read of `a`: `CalibrationError` on `Err` (R84, R96). -/
def State.calByte (s : State) (a : Byte) (k : Byte → State → State) : State :=
  s.memRead1 a fun r s =>
    match r with
    | some b => k b s
    | none => s.raise .calibrationError a false

/-- A two-byte calibration read of `a`: `CalibrationError` on `Err`, with the address byte as sent (R86, R96). -/
def State.calPair (s : State) (a : Byte) (k : Word → State → State) : State :=
  s.memRead2 a fun r s =>
    match r with
    | some w => k w s
    | none => s.raise .calibrationError (s.cfg.incByte a) false

/-- `LDH0` (R84). -/
def execLdh0 (s : State) : Out :=
  onCells s.cfg.aH0 1 (.next (s.calByte s.cfg.aH0 fun b s => { s with cal := { s.cal with h0 := some (halve b) } }.goto 0x03))

/-- `LDH1` (R85). -/
def execLdh1 (s : State) : Out :=
  onCells s.cfg.aH1 1 (.next (s.calByte s.cfg.aH1 fun b s => { s with cal := { s.cal with h1 := some (halve b) } }.goto 0x04))

/-- `LDH2` (R86); the register's 16 bits are read through `sext16`. -/
def execLdh2 (s : State) : Out :=
  onCells s.cfg.aH2 2 (.next (s.calPair s.cfg.aH2 fun w s => { s with cal := { s.cal with h2 := some w } }.goto 0x05))

/-- `LDH3` (R87). -/
def execLdh3 (s : State) : Out :=
  onCells s.cfg.aH3 2 (.next (s.calPair s.cfg.aH3 fun w s => { s with cal := { s.cal with h3 := some w } }.goto 0x06))

/-- `LDT0L` (R88). -/
def execLdt0l (s : State) : Out :=
  onCells s.cfg.aT0 1 (.next (s.calByte s.cfg.aT0 fun b s => { s with lat := { s.lat with t0l := some b } }.goto 0x07))

/-- `LDT1L` (R89). -/
def execLdt1l (s : State) : Out :=
  onCells s.cfg.aT1 1 (.next (s.calByte s.cfg.aT1 fun b s => { s with lat := { s.lat with t1l := some b } }.goto 0x08))

/-- `LDTMSB` (R90): "the whole byte is latched". -/
def execLdtmsb (s : State) : Out :=
  onCells s.cfg.aTmsb 1 (.next (s.calByte s.cfg.aTmsb fun b s => { s with lat := { s.lat with tmsb := some b } }.goto 0x09))

/-- `UNPKT` (R91). -/
def execUnpkt (s : State) : Out :=
  need .latTmsb s.lat.tmsb fun m =>
  need .latT0l s.lat.t0l fun l0 =>
  need .latT1l s.lat.t1l fun l1 =>
    .next ({ s with cal := { s.cal with t0 := some (packedT0 m l0), t1 := some (packedT1 m l1) } }.goto 0x0A)

/-- `LDT2` (R92). -/
def execLdt2 (s : State) : Out :=
  onCells s.cfg.aT2 2 (.next (s.calPair s.cfg.aT2 fun w s => { s with cal := { s.cal with t2 := some w } }.goto 0x0B))

/-- `LDT3` (R93). -/
def execLdt3 (s : State) : Out :=
  onCells s.cfg.aT3 2 (.next (s.calPair s.cfg.aT3 fun w s => { s with cal := { s.cal with t3 := some w } }.goto 0x0C))

/-- `CHKCAL` (R95): "one record whichever of the two equalities holds, also when both hold". -/
def execChkcal (s : State) : Out :=
  need .calH3 s.cal.h3 fun h3 =>
  need .calH2 s.cal.h2 fun h2 =>
  need .calT3 s.cal.t3 fun t3 =>
  need .calT2 s.cal.t2 fun t2 =>
    .next (if denominatorZero h2 h3 t2 t3 then s.raise .conversionDomainError 0xFF false else s.setCalValid.goto 0x10)

end Sys2Proof.Machine
end

