-- ==== Sys2Proof/Machine/Configure.lean ====
section
/-! DEFINITION. The configuration ops of 40_calibration R81, R82: family 0. -/

namespace Sys2Proof.Machine

open Sys2Proof

/-- A configuration write of `v` to `a`: `ConfigurationError` on `Err` (R81, R82, R83). -/
def State.configWrite (s : State) (a v : Byte) (k : State → State) : State :=
  s.memWrite1 a v fun ok s => if ok then k s else s.raise .configurationError a true

/-- `CFGAV` (R81). -/
def execCfgav (s : State) : Out :=
  onCells s.cfg.aAvconf 1 (.next (s.configWrite s.cfg.aAvconf s.cfg.avconfValue fun s => s.goto 0x01))

/-- `CFGCTL` (R82). -/
def execCfgctl (s : State) : Out :=
  onCells s.cfg.aCtrl 1 (.next (s.configWrite s.cfg.aCtrl s.cfg.ctrlValue fun s => s.setConfigured.goto 0x02))

end Sys2Proof.Machine
end

