-- ==== Sys2Proof/Machine/Convert.lean ====
section
/-! DEFINITION. The conversion ops of 41_converter R110 to R115: family 2. -/

namespace Sys2Proof.Machine

open Sys2Proof

/-- A two-byte data read of `a`: `BusIoError` on `Err`, with the address byte as sent (R110, R113). -/
def State.dataPair (s : State) (a : Byte) (k : Word → State → State) : State :=
  s.memRead2 a fun r s =>
    match r with
    | some w => k w s
    | none => s.raise .busIoError (s.cfg.incByte a) false

/-- A conversion runs only with a valid calibration and a denominator that is not zero (60_exceptions R181 d, 70 R200; log 13). -/
def convertible (valid : Bool) (low high : Word) (o : Out) : Out :=
  if valid then if high = low then .fault .zeroDenominator else o else .fault .calNotValid

/-- `RDHUM` (R110): from phase 0x10 to 0x11, else to 0x17. -/
def execRdhum (s : State) : Out :=
  onCells s.cfg.aHum 2 (.next (s.dataPair s.cfg.aHum fun w s =>
    { s with raw := { s.raw with hum := some w } }.goto (if s.ph = 0x10 then 0x11 else 0x17)))

/-- `CVHUM` (R111): the sample enters unsigned (R106); from phase 0x11 to 0x12, else to 0x18. -/
def execCvhum (s : State) : Out :=
  need .rawHum s.raw.hum fun raw =>
  need .calH0 s.cal.h0 fun h0 =>
  need .calH1 s.cal.h1 fun h1 =>
  need .calH2 s.cal.h2 fun h2 =>
  need .calH3 s.cal.h3 fun h3 =>
    convertible s.f.calValid h2 h3
      (.next ({ s with phy := { s.phy with
          humU := some (s.cfg.num.hum raw.toNat h0.toNat h1.toNat (sext16 h2) (sext16 h3)) } }.goto
        (if s.ph = 0x11 then 0x12 else 0x18)))

/-- `CLAMPH` (R112): `PHY.hum_u` is not changed. -/
def execClamph (s : State) : Out :=
  need .phyHumU s.phy.humU fun u => .next ({ s with phy := { s.phy with humR := some (clamp100 u) } }.goto 0x1A)

/-- `RDTEMP` (R113). -/
def execRdtemp (s : State) : Out :=
  onCells s.cfg.aTemp 2 (.next (s.dataPair s.cfg.aTemp fun w s => { s with raw := { s.raw with temp := some w } }.goto 0x1B))

/-- `CVTC` (R114): the sample is sign-extended first (R106). -/
def execCvtc (s : State) : Out :=
  need .rawTemp s.raw.temp fun raw =>
  need .calT0 s.cal.t0 fun t0 =>
  need .calT1 s.cal.t1 fun t1 =>
  need .calT2 s.cal.t2 fun t2 =>
  need .calT3 s.cal.t3 fun t3 =>
    convertible s.f.calValid t2 t3
      (.next ({ s with phy := { s.phy with
          tempC := some (s.cfg.num.tc (sext16 raw) t0.toNat t1.toNat (sext16 t2) (sext16 t3)) } }.goto 0x1C))

/-- `CVTF` (R115). -/
def execCvtf (s : State) : Out :=
  need .phyTempC s.phy.tempC fun c => .next ({ s with phy := { s.phy with tempF := some (s.cfg.num.tf c) } }.goto 0x1D)

end Sys2Proof.Machine
end

