-- ==== Sys2Proof/Machine/Heat.lean ====
section
/-! DEFINITION. The heater ops of 42_heater R121 to R126: family 3. -/

namespace Sys2Proof.Machine

open Sys2Proof

/-- The read-modify-write of the heater register: read `A_HEATER`, keep the byte in `HREG`, write it back changed by `change`; two
transactions back to back, none after a failed read (R122, R123, R125). `done` gets the failing direction: `none` if both were `Ok`, else
the `rw` bit of the failed one. -/
def State.heaterRmw (s : State) (change : Byte → Byte) (done : Option Bool → State → State) : State :=
  s.memRead1 s.cfg.aHeater fun r s =>
    match r with
    | none => done (some false) s
    | some b =>
      { s with hreg := some b }.memWrite1 s.cfg.aHeater (change b) fun ok s => done (if ok then none else some true) s

/-- `SATCHK` (R121). -/
def execSatchk (s : State) : Out :=
  need .phyHumU s.phy.humU fun u =>
    .next ({ s.setSatUnres false with iter := 0 }.goto (if overThreshold s.cfg u then 0x13 else 0x19))

/-- `HTRON` (R122): a failure is reported and the op goes on to the dwell. -/
def execHtron (s : State) : Out :=
  onCells s.cfg.aHeater 1 (.next
    ({ s.setHs .heating with iter := s.iter + 1 }.heaterRmw (heaterOn s.cfg.heaterMask) fun failed s =>
      match failed with
      | none => s.goto 0x14
      | some rw => (s.raise .heaterEnableFailed s.cfg.aHeater rw).goto 0x14))

/-- `DWELL` (R124). -/
def execDwell (s : State) : Out :=
  .next ((s.loadTimer s.cfg.dwellTicks).wait fun s => s.goto 0x15)

/-- `HTROFF` (R125): a failed read or write is a failed disable. -/
def execHtroff (s : State) : Out :=
  onCells s.cfg.aHeater 1 (.next
    (s.heaterRmw (heaterOff s.cfg.heaterMask) fun failed s =>
      match failed with
      | none => ((s.setHtrUnsafe false).setHs .cooldown).goto 0x16
      | some rw => ((s.setHtrUnsafe true).setHs .idle).raise .heaterDisableFailed s.cfg.aHeater rw))

/-- `RETRY` (R126). When it loops it writes `PH` alone: "Cooldown -> Heating happens in HTRON", so `HS` is `Cooldown` between the two steps
(log 17, DEDUCED, against the wording of R130). -/
def execRetry (s : State) : Out :=
  need .phyHumU s.phy.humU fun u =>
    .next
      (if overThreshold s.cfg u then
        if s.iter.toNat < s.cfg.heaterMaxIter then s.goto 0x13
        else (((s.setSatUnres true).setHs .idle).raise .heaterSaturationUnresolved 0xFF false).goto 0x19
      else (s.setHs .idle).goto 0x19)

end Sys2Proof.Machine
end

