-- ==== Sys2Proof/Machine/Sequence.lean ====
section
/-! DEFINITION. The sequencing ops of 43_pollloop R150, R151, R153: family 4. -/

namespace Sys2Proof.Machine

open Sys2Proof

/-- `EMIT` (R150): one sink request; `PH <- 0x1E` either way. -/
def execEmit (s : State) : Out :=
  need .phyHumR s.phy.humR fun humR =>
  need .phyTempC s.phy.tempC fun tempC =>
  need .phyTempF s.phy.tempF fun tempF =>
    .next (s.sinkRequest (recordText s.cfg.num.fmt2 humR tempC tempF) fun ok s =>
      if ok then s.goto 0x1E else s.raise .outputIoError 0xFF true)

/-- `SLEEP` (R151): the wait, then the ephemeral registers lose their values, then the next cycle (R152). -/
def execSleep (s : State) : Out :=
  .next ((s.loadTimer s.cfg.cycleTicks).wait fun s => s.invalidateCycle.goto 0x10)

/-- `HALT` (R153): "every step, for ever, until RESET". -/
def execHalt (s : State) : Out :=
  .next (s.setHalted.goto 0x3F)

end Sys2Proof.Machine
end

