-- ==== Sys2Proof/Syntax.lean ====
section
/-! DEFINITION. The 27 micro-operations of 30_encoding R67, one constructor per row of spec/opcode_table.json. None has an operand. -/

namespace Sys2Proof

/-- The micro-operations, in the order of the table. -/
inductive Instr where
  | cfgav
  | cfgctl
  | ldh0
  | ldh1
  | ldh2
  | ldh3
  | ldt0l
  | ldt1l
  | ldtmsb
  | unpkt
  | ldt2
  | ldt3
  | chkcal
  | rdhum
  | cvhum
  | clamph
  | rdtemp
  | cvtc
  | cvtf
  | satchk
  | htron
  | dwell
  | htroff
  | retry
  | emit
  | sleep
  | halt
  deriving DecidableEq, Repr, Inhabited

end Sys2Proof
end

