-- ==== Sys2Proof/Machine/Dispatch.lean ====
section
/-! DEFINITION. One arm per op, each one call of its meaning. -/

namespace Sys2Proof.Machine

open Sys2Proof

/-- Run one op to completion (43_pollloop R142). -/
def exec (i : Instr) (s : State) : Host.Outcome State Fault Refusal :=
  match i with
  | .cfgav => Sys2Proof.Machine.execCfgav s
  | .cfgctl => Sys2Proof.Machine.execCfgctl s
  | .ldh0 => Sys2Proof.Machine.execLdh0 s
  | .ldh1 => Sys2Proof.Machine.execLdh1 s
  | .ldh2 => Sys2Proof.Machine.execLdh2 s
  | .ldh3 => Sys2Proof.Machine.execLdh3 s
  | .ldt0l => Sys2Proof.Machine.execLdt0l s
  | .ldt1l => Sys2Proof.Machine.execLdt1l s
  | .ldtmsb => Sys2Proof.Machine.execLdtmsb s
  | .unpkt => Sys2Proof.Machine.execUnpkt s
  | .ldt2 => Sys2Proof.Machine.execLdt2 s
  | .ldt3 => Sys2Proof.Machine.execLdt3 s
  | .chkcal => Sys2Proof.Machine.execChkcal s
  | .rdhum => Sys2Proof.Machine.execRdhum s
  | .cvhum => Sys2Proof.Machine.execCvhum s
  | .clamph => Sys2Proof.Machine.execClamph s
  | .rdtemp => Sys2Proof.Machine.execRdtemp s
  | .cvtc => Sys2Proof.Machine.execCvtc s
  | .cvtf => Sys2Proof.Machine.execCvtf s
  | .satchk => Sys2Proof.Machine.execSatchk s
  | .htron => Sys2Proof.Machine.execHtron s
  | .dwell => Sys2Proof.Machine.execDwell s
  | .htroff => Sys2Proof.Machine.execHtroff s
  | .retry => Sys2Proof.Machine.execRetry s
  | .emit => Sys2Proof.Machine.execEmit s
  | .sleep => Sys2Proof.Machine.execSleep s
  | .halt => Sys2Proof.Machine.execHalt s

end Sys2Proof.Machine
end

