-- ==== Sys2Proof/WellFormed.lean ====
section
/-! DEFINITION. Well-formedness. An op has no field (30_encoding R67, R68), so there is nothing an op could get wrong: every `Instr` is
well-formed, and an unknown code is refused by the decoder. What can be ill-formed is a configuration: its checks, one for each
constraint of 00_scope R7, stand in Machine/Params.lean, and a step refuses a configuration that fails one. -/

namespace Sys2Proof

/-- Every op is well-formed: it "is fully named by its mnemonic" (30_encoding R67). -/
def Instr.wf : Instr → Bool := fun _ => true

/-- A configuration a block can be built with (00_scope R7). -/
abbrev Cfg.WF (c : Cfg) : Prop := c.ok = true

end Sys2Proof
end

