-- ==== Sys2Proof/Decode.lean ====
section
/-! DEFINITION. The decoder of format U, total on any bytes, and the encoder, both from the table of 30_encoding R67. -/

namespace Sys2Proof

/-- Why a byte string is no op: nothing there, or a code that names none (30_encoding R69). -/
inductive DecodeError where
  | noByte
  | noSuchCode (code : Byte)
  deriving DecidableEq, Repr

/-- The op an 8-bit code names, if any: format U, the 27 codes of R67. -/
def decodeOp (code : Byte) : Option Instr :=
  match code.toNat with
  | 0x00 => some .cfgav
  | 0x01 => some .cfgctl
  | 0x10 => some .ldh0
  | 0x11 => some .ldh1
  | 0x12 => some .ldh2
  | 0x13 => some .ldh3
  | 0x14 => some .ldt0l
  | 0x15 => some .ldt1l
  | 0x16 => some .ldtmsb
  | 0x17 => some .unpkt
  | 0x18 => some .ldt2
  | 0x19 => some .ldt3
  | 0x1A => some .chkcal
  | 0x20 => some .rdhum
  | 0x21 => some .cvhum
  | 0x22 => some .clamph
  | 0x23 => some .rdtemp
  | 0x24 => some .cvtc
  | 0x25 => some .cvtf
  | 0x30 => some .satchk
  | 0x31 => some .htron
  | 0x32 => some .dwell
  | 0x33 => some .htroff
  | 0x34 => some .retry
  | 0x40 => some .emit
  | 0x41 => some .sleep
  | 0x42 => some .halt
  | _ => none

/-- Decode the first op of a byte string and give the rest back; an unknown code is refused by name (R69). -/
def decode : List Byte → Except DecodeError (Instr × List Byte)
  | [] => .error .noByte
  | c :: rest =>
    match decodeOp c with
    | some i => .ok (i, rest)
    | none => .error (.noSuchCode c)

/-- Decode a whole byte string, op after op; `none` where one byte names no op. -/
def decodeAll : List Byte → Option (List Instr)
  | [] => some []
  | c :: rest =>
    match decodeOp c, decodeAll rest with
    | some i, some is => some (i :: is)
    | _, _ => none

/-- Format U: "bits 7:4 the family" (R67). -/
def Instr.family : Instr → BitVec 4
  | .cfgav | .cfgctl => 0
  | .ldh0 | .ldh1 | .ldh2 | .ldh3 | .ldt0l | .ldt1l | .ldtmsb | .unpkt | .ldt2 | .ldt3 | .chkcal => 1
  | .rdhum | .cvhum | .clamph | .rdtemp | .cvtc | .cvtf => 2
  | .satchk | .htron | .dwell | .htroff | .retry => 3
  | .emit | .sleep | .halt => 4

/-- Format U: "bits 3:0 the function within the family" (R67). -/
def Instr.function : Instr → BitVec 4
  | .cfgav | .ldh0 | .rdhum | .satchk | .emit => 0
  | .cfgctl | .ldh1 | .cvhum | .htron | .sleep => 1
  | .ldh2 | .clamph | .dwell | .halt => 2
  | .ldh3 | .rdtemp | .htroff => 3
  | .ldt0l | .cvtc | .retry => 4
  | .ldt1l | .cvtf => 5
  | .ldtmsb => 6
  | .unpkt => 7
  | .ldt2 => 8
  | .ldt3 => 9
  | .chkcal => 0xA

/-- The 8-bit code of an op: the family, then the function (R67). -/
def Instr.code (i : Instr) : Byte := i.family ++ i.function

/-- The bytes of an op: its one code byte. -/
def encode (i : Instr) : List Byte := [i.code]

/-- The bytes of a sequence of ops. -/
def encodeAll (is : List Instr) : List Byte := is.map Instr.code

/-- The op the decoder reads from an instruction whose bits are `w` (bit 0 the least significant of the one byte). -/
def decodeTableWord (nbits w : Nat) : Option Instr :=
  match decode [BitVec.ofNat 8 (w % 2 ^ nbits)] with
  | .ok (i, _) => some i
  | .error _ => none

end Sys2Proof
end

