-- ==== Sys2Proof/Machine/Microprogram.lean ====
section
/-! DEFINITION. The microprogram (43_pollloop R141), what comes before an op (TERM, RESET, the model faults of a step), and which op a
step runs. -/

namespace Sys2Proof.Machine

open Sys2Proof

/-- The code of the op that stands at a phase: the first two columns of R141; no other phase is legal (10_state R17). -/
def romCode (ph : Byte) : Option Byte :=
  match ph.toNat with
  | 0x00 => some 0x00
  | 0x01 => some 0x01
  | 0x02 => some 0x10
  | 0x03 => some 0x11
  | 0x04 => some 0x12
  | 0x05 => some 0x13
  | 0x06 => some 0x14
  | 0x07 => some 0x15
  | 0x08 => some 0x16
  | 0x09 => some 0x17
  | 0x0A => some 0x18
  | 0x0B => some 0x19
  | 0x0C => some 0x1A
  | 0x10 => some 0x20
  | 0x11 => some 0x21
  | 0x12 => some 0x30
  | 0x13 => some 0x31
  | 0x14 => some 0x32
  | 0x15 => some 0x33
  | 0x16 => some 0x20
  | 0x17 => some 0x21
  | 0x18 => some 0x34
  | 0x19 => some 0x22
  | 0x1A => some 0x23
  | 0x1B => some 0x24
  | 0x1C => some 0x25
  | 0x1D => some 0x40
  | 0x1E => some 0x41
  | 0x3F => some 0x42
  | _ => none

/-- The first phase at which an op stands (R141). -/
def phaseOf : Instr → Byte
  | .cfgav => 0x00
  | .cfgctl => 0x01
  | .ldh0 => 0x02
  | .ldh1 => 0x03
  | .ldh2 => 0x04
  | .ldh3 => 0x05
  | .ldt0l => 0x06
  | .ldt1l => 0x07
  | .ldtmsb => 0x08
  | .unpkt => 0x09
  | .ldt2 => 0x0A
  | .ldt3 => 0x0B
  | .chkcal => 0x0C
  | .rdhum => 0x10
  | .cvhum => 0x11
  | .clamph => 0x19
  | .rdtemp => 0x1A
  | .cvtc => 0x1B
  | .cvtf => 0x1C
  | .satchk => 0x12
  | .htron => 0x13
  | .dwell => 0x14
  | .htroff => 0x15
  | .retry => 0x18
  | .emit => 0x1D
  | .sleep => 0x1E
  | .halt => 0x3F

/-- The op a step runs: the one at `ROM[PH]` (R142). A phase outside the table and a heater state 3 are model faults, a code that names
no op is refused (60_exceptions R181; log 13). -/
def fetchOp (s : State) (run : Instr → Out) : Out :=
  if s.hs = .pattern3 then .fault .badHeaterState
  else
    match romCode s.ph with
    | none => .fault (.badPhase s.ph)
    | some c =>
      match decodeOp c with
      | none => .refused (.badCode c)
      | some i => run i

/-- What comes before an op. A configuration that breaks 00_scope R7 is "refused before any step" (60_exceptions R181 f). Then the
environment chooses: `RESET`, which "overrides everything" (R173); `TERM` (R170); or neither. With `F.term` = 1 "there is no step" (R142). -/
def beforeOp (s : State) (op : State → Out) : Out :=
  if s.cfg.ok then
    match s.nextEvent with
    | .reset => .next s.drawEvent.takeReset
    | .term => if s.f.term then .fault .terminated else .next s.drawEvent.takeTerm
    | .none => if s.f.term then .fault .terminated else op s.drawEvent
  else .refused .badConfig

/-- The state whose next step runs the op of a byte string: `PH` at a phase where the op stands, and no `TERM` or `RESET` before it. A byte
that names no op stands at no phase, so the phase is then an illegal one (log 11). -/
def placeOp (s : State) (i : Option Instr) : State :=
  { s with ph := i.elim 0xFF phaseOf, env := { s.env with events := Async.none :: s.env.events } }

end Sys2Proof.Machine
end

