-- ==== Sys2Proof/Machine/Step.lean ====
section
/-! DEFINITION. One step of the sequencer (43_pollloop R142), and the state in which a given op runs next. -/

namespace Sys2Proof.Machine

open Sys2Proof

/-- One step: `TERM` or `RESET` taken before the op, or the op at `ROM[PH]` run to completion (43_pollloop R142, 60_exceptions R170). -/
def step (s : State) : Host.Outcome State Fault Refusal :=
  beforeOp s fun s => fetchOp s fun i => exec i s

/-- The state whose next step runs the op with code `w`: the microprogram is hardwired (20_memory R56), so the phase is set to one where
that op stands (log 11). -/
def State.withFetchWord (s : State) (nbits w : Nat) : State := placeOp s (decodeTableWord nbits w)

end Sys2Proof.Machine
end

