-- ==== Sys2Proof/Safety.lean ====
section
/-! DEFINITION. The terms claims are stated in: the environment premises P1 to P4, what a quiet transaction is, which bus requests are
legal, and the invariant of the reachable states (10_state R35, 42_heater R130, 60_exceptions R181). -/

namespace Sys2Proof.Machine

open Sys2Proof

/-! ### The environment premises -/

/-- What the environment changes in the device's cells at a transaction: before it, and as a side effect of a read (20_memory R49, R53). -/
def changes (an : BusAnswer) : List (Nat × Byte) := an.pokes ++ an.effects

/-- P1, exclusive ownership: nobody else changes `DEV.reg[A_HEATER]` (20_memory R53). It binds what the environment changes, not the bytes
an `Ok` read returns: those are `ReadsCells` (log 23, DESIGN CHOICE). -/
def P1 (c : Cfg) (an : BusAnswer) : Prop := ∀ p ∈ changes an, p.1 ≠ c.aHeater.toNat

/-- P2: "a write answered `Ok` took effect" (20_memory R53). -/
def P2 (an : BusAnswer) : Prop := an.ok = true → an.took = true

/-- P3: "calibration cells are constant" (20_memory R53). Like P1 it binds what the environment changes, not the bytes an `Ok` read returns
(log 23, DESIGN CHOICE). -/
def P3 (c : Cfg) (an : BusAnswer) : Prop := ∀ p ∈ changes an, ∀ a ∈ c.calCells, p.1 ≠ a.toNat

/-- A read answered `Ok` returns the content of the cells (20_memory R42), where R52 lets the environment choose any bytes: a premise of
its own beside P1 and P3 (log 23, DESIGN CHOICE). -/
def ReadsCells (an : BusAnswer) : Prop := an.bytes = none

/-- The device's heater bit, `DEV.reg[A_HEATER] & HEATER_MASK` (10_state R27 a). -/
def State.heaterBit (s : State) : Bool := decide (Memory.cell s.env.dev s.cfg.aHeater.toNat &&& s.cfg.heaterMask ≠ 0)

/-- P4: "the device heater bit is 0 at reset" (70 R192). -/
def P4 (s : State) : Prop := s.heaterBit = false

/-! ### One transaction -/

/-- No `TERM` and no `RESET` around a bus transaction. -/
def busQuiet (an : BusAnswer) : Bool := decide (an.before = .none) && decide (an.after = .none)

/-- No `TERM` and no `RESET` around a sink request. -/
def sinkQuiet (an : SinkAnswer) : Bool := decide (an.before = .none) && decide (an.after = .none)

/-- The device's cells when the next bus transaction is carried out. -/
def State.cells (s : State) : Memory := Memory.writeAll s.env.dev s.nextBus.pokes

/-- The next bus transaction is quiet and, if a one-byte read of `a`, is answered `r` (20_memory R42; `none` is `Err`). -/
def State.repliesByte (s : State) (a : Byte) (r : Option Byte) : Prop :=
  busQuiet s.nextBus = true ∧ replyByte s.nextBus s.cells a.toNat = r

/-- The next bus transaction is quiet and, if a two-byte read of `a`, is answered `r`. -/
def State.repliesPair (s : State) (a : Byte) (r : Option (Byte × Byte)) : Prop :=
  busQuiet s.nextBus = true ∧ replyPair s.nextBus s.cells a.toNat = r

/-- The next bus transaction is quiet and, if a write, is answered `Ok` or `Err`. -/
def State.repliesWrite (s : State) (ok : Bool) : Prop := busQuiet s.nextBus = true ∧ s.nextBus.ok = ok

/-- The environment after a read: one choice drawn, the cells with what the environment changed before the read and by it. -/
def State.afterRead (s : State) : Env :=
  { s.env with dev := readCells s.nextBus s.cells, bus := s.env.bus.tail, draws := s.env.draws + 1 }

/-- The environment after a write of `v` to `a`. -/
def State.afterWrite (s : State) (a v : Byte) : Env :=
  { s.env with dev := writtenCells s.nextBus s.cells a.toNat v, bus := s.env.bus.tail, draws := s.env.draws + 1 }

/-- The second bus answer of a read-modify-write that starts now. -/
def State.secondBus (s : State) : BusAnswer := s.drawBus.nextBus

/-- The device's cells when the second transaction of a read-modify-write is carried out. -/
def State.cells2 (s : State) : Memory := Memory.writeAll (readCells s.nextBus s.cells) s.secondBus.pokes

/-- The environment after a read and a write of `v` to `a`. -/
def State.afterRmw (s : State) (a v : Byte) : Env :=
  { s.env with
    dev := writtenCells s.secondBus s.cells2 a.toNat v
    bus := s.env.bus.tail.tail, draws := s.env.draws + 2 }

/-- The environment after a sink request. -/
def State.afterSink (s : State) (text : List Byte) : Env :=
  { s.env with
    sink := if s.nextSink.ok then some text else s.nextSink.left.or s.env.sink
    sinks := s.env.sinks.tail, draws := s.env.draws + 1 }

/-- The environment after a wait. -/
def State.afterWait (s : State) : Env := { s.env with waits := s.env.waits.tail, draws := s.env.draws + 1 }

/-- The ops that make bus transactions (20_memory R47). -/
def busOps : List Instr :=
  [.cfgav, .cfgctl, .ldh0, .ldh1, .ldh2, .ldh3, .ldt0l, .ldt1l, .ldtmsb, .ldt2, .ldt3, .rdhum, .rdtemp, .htron, .htroff]

/-- The ops whose one transaction is a one-byte read, with its address (20_memory R47). -/
def byteReads (c : Cfg) : List (Instr × Byte) :=
  [(.ldh0, c.aH0), (.ldh1, c.aH1), (.ldt0l, c.aT0), (.ldt1l, c.aT1), (.ldtmsb, c.aTmsb)]

/-- The ops whose one transaction is a two-byte read, with its address (20_memory R47). -/
def pairReads (c : Cfg) : List (Instr × Byte) :=
  [(.ldh2, c.aH2), (.ldh3, c.aH3), (.ldt2, c.aT2), (.ldt3, c.aT3), (.rdhum, c.aHum), (.rdtemp, c.aTemp)]

/-- The ops whose one transaction is a write, with its address and byte (20_memory R47). -/
def configWrites (c : Cfg) : List (Instr × Byte × Byte) :=
  [(.cfgav, c.aAvconf, c.avconfValue), (.cfgctl, c.aCtrl, c.ctrlValue)]

/-- The ops that read the heater register and then write it (20_memory R47). -/
def heaterOps : List Instr := [.htron, .htroff]

/-! ### The choices an op and a step draw -/

/-- The bus answers an op draws: both of a heater op whose read is answered `Ok` with neither `TERM` nor `RESET` around it, else the first
of an op that makes transactions. -/
def State.opAnswers (s : State) (i : Instr) : List BusAnswer :=
  if busOps.contains i then
    if heaterOps.contains i && busQuiet s.nextBus && (replyByte s.nextBus s.cells s.cfg.aHeater.toNat).isSome then
      [s.nextBus, s.secondBus]
    else [s.nextBus]
  else []

/-- The points of an op at which `TERM` or `RESET` may be taken (60_exceptions R170), in order, with what the environment chose there. -/
def State.opPoints (s : State) (i : Instr) : List Async :=
  match i with
  | .emit => [s.nextSink.before, s.nextSink.after]
  | .dwell | .sleep => [s.nextWait.what]
  | _ => (s.opAnswers i).flatMap fun an => [an.before, an.after]

/-- The op at the phase (43_pollloop R141). -/
def State.opHere (s : State) : Option Instr := (romCode s.ph).bind decodeOp

/-- The bus answers the next step draws. -/
def State.stepAnswers (s : State) : List BusAnswer :=
  if s.nextEvent = .none then s.opHere.elim [] s.drawEvent.opAnswers else []

/-- What ends an op before it is complete: the first choice at its points that is not to go on. -/
def State.opInterrupt (s : State) (i : Instr) : Async := ((s.opPoints i).find? fun a => decide (a ≠ .none)).getD .none

/-- What ends the next step before its op is complete: the choice before the op, else that inside it. -/
def State.interrupt (s : State) : Async :=
  match s.nextEvent with
  | .none => s.opHere.elim .none s.drawEvent.opInterrupt
  | e => e

/-- The next step takes no `RESET`. -/
def State.noReset (s : State) : Prop := s.interrupt ≠ .reset

/-- The next step takes no `TERM`. -/
def State.noTerm (s : State) : Prop := s.interrupt ≠ .term

/-! ### What an op needs -/

/-- The registers an op reads that can hold no value (30_encoding R67, the operands of each op's rule), in the model's reading order
(log 13), with whether they hold one. -/
def State.operands (s : State) (i : Instr) : List (RegName × Bool) :=
  match i with
  | .unpkt => [(.latTmsb, s.lat.tmsb.isSome), (.latT0l, s.lat.t0l.isSome), (.latT1l, s.lat.t1l.isSome)]
  | .chkcal => [(.calH3, s.cal.h3.isSome), (.calH2, s.cal.h2.isSome), (.calT3, s.cal.t3.isSome), (.calT2, s.cal.t2.isSome)]
  | .cvhum =>
    [(.rawHum, s.raw.hum.isSome), (.calH0, s.cal.h0.isSome), (.calH1, s.cal.h1.isSome), (.calH2, s.cal.h2.isSome),
      (.calH3, s.cal.h3.isSome)]
  | .cvtc =>
    [(.rawTemp, s.raw.temp.isSome), (.calT0, s.cal.t0.isSome), (.calT1, s.cal.t1.isSome), (.calT2, s.cal.t2.isSome),
      (.calT3, s.cal.t3.isSome)]
  | .satchk | .retry | .clamph => [(.phyHumU, s.phy.humU.isSome)]
  | .cvtf => [(.phyTempC, s.phy.tempC.isSome)]
  | .emit => [(.phyHumR, s.phy.humR.isSome), (.phyTempC, s.phy.tempC.isSome), (.phyTempF, s.phy.tempF.isSome)]
  | _ => []

/-- The first register an op reads that holds no value, if any. -/
def State.missing (s : State) (i : Instr) : Option RegName := ((s.operands i).find? fun p => !p.2).map Prod.fst

/-! ### What errors leave -/

/-- The record of an error raised now (30_encoding R72). -/
def State.errNow (s : State) (code addr : Byte) (rw : Bool) : ErrRec := { code := code, phase := s.ph, addr := addr, rw := rw }

/-- What a calibration read answered `Err` leaves (40_calibration R96, 60_exceptions R163, R164): the calibration is discarded, the error
recorded and reported, `PH` = 0x3F; `e` is the failed read and `addr` its address byte. -/
def State.loadFailed (s : State) (addr : Byte) (e : Event) : State :=
  { s with
    cal := {}, lat := {}, ph := 0x3F, err := s.errNow 0x20 addr false, env := s.afterRead
    trace := s.trace ++ [e, .log (s.errNow 0x20 addr false)] }

/-- What a data read answered `Err` leaves (60_exceptions R163, R165): `HS` = `Idle`, the error recorded and reported, `PH` = 0x1E. -/
def State.sampleFailed (s : State) (addr : Byte) (e : Event) : State :=
  { s with
    hs := .idle, ph := 0x1E, err := s.errNow 0x30 addr false, env := s.afterRead
    trace := s.trace ++ [e, .log (s.errNow 0x30 addr false)] }

/-! ### What the block may put on its ports -/

/-- The bus requests the block may issue (10_state R24, R25, 20_memory R41, R42, R43): one-byte reads of the heater register and the
five calibration bytes, two-byte reads with the auto-increment flag of the two data pairs and the four calibration pairs, and writes of
the two configuration bytes or of the heater register, all to `DEV_ADDR`. -/
def Event.legal (c : Cfg) : Event → Bool
  | .r1 dev areg _ => decide (dev = c.devAddr) && [c.aHeater, c.aH0, c.aH1, c.aT0, c.aT1, c.aTmsb].contains areg
  | .r2 dev areg _ => decide (dev = c.devAddr) && (c.pairBases.map c.incByte).contains areg
  | .w1 dev areg v _ => decide (dev = c.devAddr) &&
      ((decide (areg = c.aAvconf) && decide (v = c.avconfValue)) || (decide (areg = c.aCtrl) && decide (v = c.ctrlValue)) ||
        decide (areg = c.aHeater))
  | .sink _ _ => true
  | .log _ => true
  | .wait _ => true

/-- A `LOG` record. -/
def Event.isLog : Event → Bool
  | .log _ => true
  | _ => false

/-- A bus transaction. -/
def Event.isBus : Event → Bool
  | .r1 .. | .r2 .. | .w1 .. => true
  | _ => false

/-- A sink request. -/
def Event.isSink : Event → Bool
  | .sink .. => true
  | _ => false

/-- A bus request of the poll cycle (43_pollloop R155): the heater register, or one of the two data pairs. -/
def Event.inCycle (c : Cfg) : Event → Bool
  | .r1 _ areg _ => decide (areg = c.aHeater)
  | .r2 _ areg _ => decide (areg = c.incByte c.aHum) || decide (areg = c.incByte c.aTemp)
  | .w1 _ areg _ _ => decide (areg = c.aHeater)
  | .sink _ _ => true
  | .log _ => true
  | .wait _ => true

/-- The records put on `LOG`, in order. -/
def logged (es : List Event) : List ErrRec :=
  es.filterMap fun e => match e with
    | .log r => some r
    | _ => none

/-- The number a string of decimal digits stands for. -/
def digitsValue (l : List Byte) : Nat := l.foldl (fun n b => 10 * n + (b.toNat - 0x30)) 0

/-! ### The sequencer -/

/-- The code of an op (30_encoding R67) and the phases at which it stands (43_pollloop R141). -/
def Stands (i : Instr) (code : Byte) (phases : List Byte) : Prop :=
  encode i = [code] ∧ ∀ ph : Byte, (romCode ph).bind decodeOp = some i ↔ ph ∈ phases

/-- The successors of each phase, on normal completion or after an aborting error (43_pollloop R141). -/
def successors (ph : Byte) : List Byte :=
  match ph.toNat with
  | 0x00 => [0x01, 0x3F]
  | 0x01 => [0x02, 0x3F]
  | 0x02 => [0x03, 0x3F]
  | 0x03 => [0x04, 0x3F]
  | 0x04 => [0x05, 0x3F]
  | 0x05 => [0x06, 0x3F]
  | 0x06 => [0x07, 0x3F]
  | 0x07 => [0x08, 0x3F]
  | 0x08 => [0x09, 0x3F]
  | 0x09 => [0x0A]
  | 0x0A => [0x0B, 0x3F]
  | 0x0B => [0x0C, 0x3F]
  | 0x0C => [0x10, 0x3F]
  | 0x10 => [0x11, 0x1E]
  | 0x11 => [0x12]
  | 0x12 => [0x13, 0x19]
  | 0x13 => [0x14]
  | 0x14 => [0x15]
  | 0x15 => [0x16, 0x1E]
  | 0x16 => [0x17, 0x1E]
  | 0x17 => [0x18]
  | 0x18 => [0x13, 0x19]
  | 0x19 => [0x1A]
  | 0x1A => [0x1B, 0x1E]
  | 0x1B => [0x1C]
  | 0x1C => [0x1D]
  | 0x1D => [0x1E]
  | 0x1E => [0x10]
  | 0x3F => [0x3F]
  | _ => []

/-! ### The invariant -/

/-- `a` implies `b`. -/
def imp (a b : Bool) : Bool := !a || b

/-- All eight `CAL` registers hold values, with `h3 != h2` and `t3 != t2` (10_state R35 a). -/
def CalFile.usable (c : CalFile) : Bool :=
  c.h0.isSome && c.h1.isSome && c.h2.isSome && c.h3.isSome && c.t0.isSome && c.t1.isSome && c.t2.isSome && c.t3.isSome &&
    decide (c.h3 ≠ c.h2) && decide (c.t3 ≠ c.t2)

/-- The heater state that goes with a phase (42_heater R130; at 0x13 see `State.heaterTied`). -/
def hsAt (ph : Byte) : HeaterState :=
  match ph.toNat with
  | 0x14 | 0x15 => .heating
  | 0x16 | 0x17 | 0x18 => .cooldown
  | _ => .idle

/-- A phase of the poll cycle, 0x10..0x1E. -/
def inCycle (ph : Byte) : Bool := decide (0x10 ≤ ph.toNat) && decide (ph.toNat ≤ 0x1E)

/-- A phase of the boot, 0x00..0x0C. -/
def inBoot (ph : Byte) : Bool := decide (ph.toNat ≤ 0x0C)

/-- R130, with the two states its wording leaves out, both at phase 0x13 (log 17): `HS` is still `Cooldown` after a `RETRY` that loops
(42_heater R126), and already `Heating` after a `TERM` inside `HTRON` (60_exceptions R170). Where a derived rule and the rules it is derived
from differ, the more specific one is followed (90_conflicts, the order of precedence). -/
def State.heaterTied (s : State) : Bool :=
  decide (s.hs = hsAt s.ph) || (decide (s.ph = 0x13) && decide (s.hs = .cooldown)) ||
    (s.f.term && decide (s.ph = 0x13) && decide (s.hs = .heating))

/-- R35 (d), and what keeps it: a live block about to run `HTRON` has an iteration left (42_heater R126). -/
def State.iterBounded (s : State) : Bool :=
  decide (s.iter.toNat ≤ s.cfg.heaterMaxIter) &&
    imp (!s.f.term && decide (s.ph = 0x13)) (decide (s.iter.toNat < s.cfg.heaterMaxIter))

/-- Between `SATCHK` and the end of the intervention (0x13..0x18) `ITER`, the count "of heater iterations begun in the current cycle"
(10_state R21), is 0 exactly as long as `HS` is `Idle`: so a block at 0x13 that is still in `Cooldown` came from a `RETRY` that loops. -/
def State.iterCounted (s : State) : Bool :=
  imp (decide (0x13 ≤ s.ph.toNat) && decide (s.ph.toNat ≤ 0x18)) (decide (s.iter = 0) == decide (s.hs = .idle))

/-- The ephemeral registers hold no value during boot, at the start of a cycle and in the halt (10_state R12, 43_pollloop R152). -/
def State.freshCycle (s : State) : Bool :=
  imp (decide (s.ph.toNat ≤ 0x10) || decide (s.ph = 0x3F))
    (decide (s.raw = {}) && decide (s.phy = {}) && decide (s.hreg = none))

/-- During boot each register is loaded once the phase of its op is passed; before the load, and in the halt, `CAL` and `LAT` are empty
(40_calibration R94, R96; 60_exceptions R164). -/
def State.loaded (s : State) : Bool :=
  imp (decide (s.ph.toNat ≤ 0x02) || decide (s.ph = 0x3F)) (decide (s.cal = {}) && decide (s.lat = {})) &&
  imp (inBoot s.ph && decide (0x03 ≤ s.ph.toNat)) s.cal.h0.isSome &&
  imp (inBoot s.ph && decide (0x04 ≤ s.ph.toNat)) s.cal.h1.isSome &&
  imp (inBoot s.ph && decide (0x05 ≤ s.ph.toNat)) s.cal.h2.isSome &&
  imp (inBoot s.ph && decide (0x06 ≤ s.ph.toNat)) s.cal.h3.isSome &&
  imp (inBoot s.ph && decide (0x07 ≤ s.ph.toNat)) s.lat.t0l.isSome &&
  imp (inBoot s.ph && decide (0x08 ≤ s.ph.toNat)) s.lat.t1l.isSome &&
  imp (inBoot s.ph && decide (0x09 ≤ s.ph.toNat)) s.lat.tmsb.isSome &&
  imp (inBoot s.ph && decide (0x0A ≤ s.ph.toNat)) (s.cal.t0.isSome && s.cal.t1.isSome) &&
  imp (inBoot s.ph && decide (0x0B ≤ s.ph.toNat)) s.cal.t2.isSome &&
  imp (inBoot s.ph && decide (0x0C ≤ s.ph.toNat)) s.cal.t3.isSome

/-- In a cycle each ephemeral register is there at the phases whose ops read it (10_state R11, 43_pollloop R141). -/
def State.sampled (s : State) : Bool :=
  imp (decide (s.ph = 0x11) || decide (s.ph = 0x17)) s.raw.hum.isSome &&
  imp (decide (s.ph = 0x12) || decide (s.ph = 0x18) || decide (s.ph = 0x19)) s.phy.humU.isSome &&
  imp (decide (0x1A ≤ s.ph.toNat) && decide (s.ph.toNat ≤ 0x1D)) s.phy.humR.isSome &&
  imp (decide (s.ph = 0x1B)) s.raw.temp.isSome &&
  imp (decide (s.ph = 0x1C) || decide (s.ph = 0x1D)) s.phy.tempC.isSome &&
  imp (decide (s.ph = 0x1D)) s.phy.tempF.isSome

/-- The flags at each phase: R35 (a), (b), (f), and that boot and halt have no valid calibration, boot configured from 0x02 on. -/
def State.flagsTied (s : State) : Bool :=
  imp s.f.calValid s.cal.usable &&
  imp (inCycle s.ph) (s.f.configured && s.f.calValid) &&
  imp s.f.halted (decide (s.ph = 0x3F)) &&
  imp (inBoot s.ph || decide (s.ph = 0x3F)) (!s.f.calValid) &&
  imp (inBoot s.ph) (s.f.configured == decide (0x02 ≤ s.ph.toNat))

/-- The invariant of the reachable states. -/
def State.inv (s : State) : Bool :=
  s.cfg.ok && Memory.wf s.env.dev && (romCode s.ph).isSome && s.heaterTied && s.iterBounded && s.iterCounted && s.flagsTied &&
    s.freshCycle && s.loaded && s.sampled

/-- What the block believes of the heater is so: unless the last disable failed or the block is heating, the device's heater bit is 0
(10_state R19, 70 R204). -/
def State.heaterSafe (s : State) : Bool := imp (!s.f.htrUnsafe && decide (s.hs ≠ .heating)) (!s.heaterBit)

end Sys2Proof.Machine
end

