-- ==== Sys2Proof/Certificates/Slice0/Obligations.lean ====
section
/-! DEFINITION. The statements for the provers, one Prop each; OBLIGATIONS.json lists them. -/

open Sys2Proof Sys2Proof.Machine

/-! ### Reset -/

/-- 70 R190, R191: the values after reset; `RESET` between two steps (at any phase, after `TERM` too), around the first transaction of an
op and around the write of a heater op, around a sink request and inside a wait leaves every register of the block at its reset value, and
between two steps the device's cells and the sink's record as they were. (That the configuration and the trace are kept is the model's, log 16.) -/
def Obligations.ResetRestoresBlock : Prop :=
  (State.reset.cal = { h0 := none, h1 := none, h2 := none, h3 := none, t0 := none, t1 := none, t2 := none, t3 := none } ∧
    State.reset.lat = { t0l := none, t1l := none, tmsb := none } ∧
    State.reset.raw = { hum := none, temp := none } ∧ State.reset.hreg = none ∧
    State.reset.phy = { humU := none, humR := none, tempC := none, tempF := none } ∧
    State.reset.ph = 0x00 ∧ State.reset.hs = .idle ∧
    State.reset.f = { configured := false, calValid := false, halted := false, htrUnsafe := false, satUnres := false, term := false } ∧
    State.reset.iter = 0 ∧ State.reset.tmr = 0 ∧
    State.reset.err = { code := 0x00, phase := 0x00, addr := 0xFF, rw := false }) ∧
  ∀ s : State, s.cfg.ok = true →
    (s.nextEvent = .reset →
      ∃ t, step s = .next t ∧ t = { State.reset with cfg := s.cfg, env := t.env, trace := s.trace } ∧
        t.env.dev = s.env.dev ∧ t.env.sink = s.env.sink) ∧
    (∀ i ∈ busOps, (s.nextBus.before = .reset ∨ (s.nextBus.before = .none ∧ s.nextBus.after = .reset)) →
      ∃ t, exec i s = .next t ∧ t = { State.reset with cfg := s.cfg, env := t.env, trace := t.trace }) ∧
    (∀ i ∈ heaterOps, ∀ b, s.repliesByte s.cfg.aHeater (some b) →
      (s.secondBus.before = .reset ∨ (s.secondBus.before = .none ∧ s.secondBus.after = .reset)) →
      ∃ t, exec i s = .next t ∧ t = { State.reset with cfg := s.cfg, env := t.env, trace := t.trace }) ∧
    (s.phy.humR.isSome = true → s.phy.tempC.isSome = true → s.phy.tempF.isSome = true →
      (s.nextSink.before = .reset ∨ (s.nextSink.before = .none ∧ s.nextSink.after = .reset)) →
      ∃ t, exec .emit s = .next t ∧ t = { State.reset with cfg := s.cfg, env := t.env, trace := t.trace }) ∧
    (∀ i ∈ [Instr.dwell, Instr.sleep], s.nextWait.what = .reset →
      ∃ t, exec i s = .next t ∧ t = { State.reset with cfg := s.cfg, env := t.env, trace := t.trace })

/-! ### Configuration (family 0) -/

/-- 40 R81: `CFGAV` when its write is answered, with neither `TERM` nor `RESET` around it. Everything not named is unchanged. -/
def Obligations.CfgavWritesAveraging : Prop :=
  Stands .cfgav 0x00 [0x00] ∧
  ∀ s : State, s.cfg.ok = true →
    (s.repliesWrite true →
      exec .cfgav s = .next { s with
        ph := 0x01
        env := s.afterWrite s.cfg.aAvconf s.cfg.avconfValue
        trace := s.trace ++ [.w1 s.cfg.devAddr s.cfg.aAvconf s.cfg.avconfValue true] }) ∧
    (s.repliesWrite false →
      exec .cfgav s = .next { s with
        ph := 0x3F
        err := s.errNow 0x10 s.cfg.aAvconf true
        env := s.afterWrite s.cfg.aAvconf s.cfg.avconfValue
        trace := s.trace ++ [.w1 s.cfg.devAddr s.cfg.aAvconf s.cfg.avconfValue false, .log (s.errNow 0x10 s.cfg.aAvconf true)] })

/-- 40 R82: `CFGCTL`. -/
def Obligations.CfgctlWritesControl : Prop :=
  Stands .cfgctl 0x01 [0x01] ∧
  ∀ s : State, s.cfg.ok = true →
    (s.repliesWrite true →
      exec .cfgctl s = .next { s with
        f := { s.f with configured := true }
        ph := 0x02
        env := s.afterWrite s.cfg.aCtrl s.cfg.ctrlValue
        trace := s.trace ++ [.w1 s.cfg.devAddr s.cfg.aCtrl s.cfg.ctrlValue true] }) ∧
    (s.repliesWrite false →
      exec .cfgctl s = .next { s with
        ph := 0x3F
        err := s.errNow 0x10 s.cfg.aCtrl true
        env := s.afterWrite s.cfg.aCtrl s.cfg.ctrlValue
        trace := s.trace ++ [.w1 s.cfg.devAddr s.cfg.aCtrl s.cfg.ctrlValue false, .log (s.errNow 0x10 s.cfg.aCtrl true)] })

/-! ### Calibration (family 1) -/

/-- 40 R84, R85: `LDH0`, `LDH1`: the byte halved, and the load that fails. -/
def Obligations.AnchorLoadsHalveTheByte : Prop :=
  Stands .ldh0 0x10 [0x02] ∧ Stands .ldh1 0x11 [0x03] ∧
  ∀ s : State, s.cfg.ok = true →
    (∀ b, s.repliesByte s.cfg.aH0 (some b) →
      exec .ldh0 s = .next { s with
        cal := { s.cal with h0 := some (halve b) }, ph := 0x03, env := s.afterRead
        trace := s.trace ++ [.r1 s.cfg.devAddr s.cfg.aH0 (some b)] }) ∧
    (s.repliesByte s.cfg.aH0 none → exec .ldh0 s = .next (s.loadFailed s.cfg.aH0 (.r1 s.cfg.devAddr s.cfg.aH0 none))) ∧
    (∀ b, s.repliesByte s.cfg.aH1 (some b) →
      exec .ldh1 s = .next { s with
        cal := { s.cal with h1 := some (halve b) }, ph := 0x04, env := s.afterRead
        trace := s.trace ++ [.r1 s.cfg.devAddr s.cfg.aH1 (some b)] }) ∧
    (s.repliesByte s.cfg.aH1 none → exec .ldh1 s = .next (s.loadFailed s.cfg.aH1 (.r1 s.cfg.devAddr s.cfg.aH1 none)))

/-- 40 R86, R87, R92, R93: the four pair loads, with the loads that fail. The register holds the 16 bits of `b0 + 256 * b1`, which every
use reads through `sext16` (SignExtensionRule). -/
def Obligations.PairLoadsStoreSignedCounts : Prop :=
  Stands .ldh2 0x12 [0x04] ∧ Stands .ldh3 0x13 [0x05] ∧ Stands .ldt2 0x18 [0x0A] ∧ Stands .ldt3 0x19 [0x0B] ∧
  ∀ s : State, s.cfg.ok = true →
    (∀ b0 b1, s.repliesPair s.cfg.aH2 (some (b0, b1)) →
      ∃ w, w.toNat = b0.toNat + 256 * b1.toNat ∧
        exec .ldh2 s = .next { s with
          cal := { s.cal with h2 := some w }, ph := 0x05, env := s.afterRead
          trace := s.trace ++ [.r2 s.cfg.devAddr (s.cfg.aH2 ||| s.cfg.autoinc) (some (b0, b1))] }) ∧
    (∀ b0 b1, s.repliesPair s.cfg.aH3 (some (b0, b1)) →
      ∃ w, w.toNat = b0.toNat + 256 * b1.toNat ∧
        exec .ldh3 s = .next { s with
          cal := { s.cal with h3 := some w }, ph := 0x06, env := s.afterRead
          trace := s.trace ++ [.r2 s.cfg.devAddr (s.cfg.aH3 ||| s.cfg.autoinc) (some (b0, b1))] }) ∧
    (∀ b0 b1, s.repliesPair s.cfg.aT2 (some (b0, b1)) →
      ∃ w, w.toNat = b0.toNat + 256 * b1.toNat ∧
        exec .ldt2 s = .next { s with
          cal := { s.cal with t2 := some w }, ph := 0x0B, env := s.afterRead
          trace := s.trace ++ [.r2 s.cfg.devAddr (s.cfg.aT2 ||| s.cfg.autoinc) (some (b0, b1))] }) ∧
    (∀ b0 b1, s.repliesPair s.cfg.aT3 (some (b0, b1)) →
      ∃ w, w.toNat = b0.toNat + 256 * b1.toNat ∧
        exec .ldt3 s = .next { s with
          cal := { s.cal with t3 := some w }, ph := 0x0C, env := s.afterRead
          trace := s.trace ++ [.r2 s.cfg.devAddr (s.cfg.aT3 ||| s.cfg.autoinc) (some (b0, b1))] }) ∧
    (s.repliesPair s.cfg.aH2 none →
      exec .ldh2 s = .next (s.loadFailed (s.cfg.aH2 ||| s.cfg.autoinc) (.r2 s.cfg.devAddr (s.cfg.aH2 ||| s.cfg.autoinc) none))) ∧
    (s.repliesPair s.cfg.aH3 none →
      exec .ldh3 s = .next (s.loadFailed (s.cfg.aH3 ||| s.cfg.autoinc) (.r2 s.cfg.devAddr (s.cfg.aH3 ||| s.cfg.autoinc) none))) ∧
    (s.repliesPair s.cfg.aT2 none →
      exec .ldt2 s = .next (s.loadFailed (s.cfg.aT2 ||| s.cfg.autoinc) (.r2 s.cfg.devAddr (s.cfg.aT2 ||| s.cfg.autoinc) none))) ∧
    (s.repliesPair s.cfg.aT3 none →
      exec .ldt3 s = .next (s.loadFailed (s.cfg.aT3 ||| s.cfg.autoinc) (.r2 s.cfg.devAddr (s.cfg.aT3 ||| s.cfg.autoinc) none)))

/-- 40 R88, R89, R90: the three latch loads. -/
def Obligations.LatchLoadsKeepWholeByte : Prop :=
  Stands .ldt0l 0x14 [0x06] ∧ Stands .ldt1l 0x15 [0x07] ∧ Stands .ldtmsb 0x16 [0x08] ∧
  ∀ s : State, s.cfg.ok = true →
    (∀ b, s.repliesByte s.cfg.aT0 (some b) →
      exec .ldt0l s = .next { s with
        lat := { s.lat with t0l := some b }, ph := 0x07, env := s.afterRead
        trace := s.trace ++ [.r1 s.cfg.devAddr s.cfg.aT0 (some b)] }) ∧
    (s.repliesByte s.cfg.aT0 none → exec .ldt0l s = .next (s.loadFailed s.cfg.aT0 (.r1 s.cfg.devAddr s.cfg.aT0 none))) ∧
    (∀ b, s.repliesByte s.cfg.aT1 (some b) →
      exec .ldt1l s = .next { s with
        lat := { s.lat with t1l := some b }, ph := 0x08, env := s.afterRead
        trace := s.trace ++ [.r1 s.cfg.devAddr s.cfg.aT1 (some b)] }) ∧
    (s.repliesByte s.cfg.aT1 none → exec .ldt1l s = .next (s.loadFailed s.cfg.aT1 (.r1 s.cfg.devAddr s.cfg.aT1 none))) ∧
    (∀ b, s.repliesByte s.cfg.aTmsb (some b) →
      exec .ldtmsb s = .next { s with
        lat := { s.lat with tmsb := some b }, ph := 0x09, env := s.afterRead
        trace := s.trace ++ [.r1 s.cfg.devAddr s.cfg.aTmsb (some b)] }) ∧
    (s.repliesByte s.cfg.aTmsb none → exec .ldtmsb s = .next (s.loadFailed s.cfg.aTmsb (.r1 s.cfg.devAddr s.cfg.aTmsb none)))

/-- 40 R91: `UNPKT`, with the two 10-bit values as numbers; bits 7:4 of the status byte have no effect. -/
def Obligations.UnpktRebuildsAnchors : Prop :=
  Stands .unpkt 0x17 [0x09] ∧
  ∀ (s : State) (m l0 l1 : Byte), s.lat.tmsb = some m → s.lat.t0l = some l0 → s.lat.t1l = some l1 →
    ∃ t0 t1 : BitVec 10,
      t0.toNat = m.toNat % 4 * 256 + l0.toNat ∧ t1.toNat = m.toNat / 4 % 4 * 256 + l1.toNat ∧
      t0.toNat = (m &&& 0x03).toNat * 256 + l0.toNat ∧ t1.toNat = (m &&& 0x0C).toNat * 64 + l1.toNat ∧
      exec .unpkt s = .next { s with cal := { s.cal with t0 := some t0, t1 := some t1 }, ph := 0x0A }

/-- 40 R95: `CHKCAL`, both outcomes; the failure discards the calibration (R96). -/
def Obligations.ChkcalValidatesDenominators : Prop :=
  Stands .chkcal 0x1A [0x0C] ∧
  ∀ (s : State) (h2 h3 t2 t3 : Word),
    s.cal.h2 = some h2 → s.cal.h3 = some h3 → s.cal.t2 = some t2 → s.cal.t3 = some t3 →
    exec .chkcal s = .next
      (if sext16 h3 = sext16 h2 ∨ sext16 t3 = sext16 t2 then
        { s with
          cal := {}, lat := {}, ph := 0x3F, err := s.errNow 0x21 0xFF false
          trace := s.trace ++ [.log (s.errNow 0x21 0xFF false)] }
      else { s with f := { s.f with calValid := true }, ph := 0x10 })

/-! ### Conversion (family 2) -/

/-- 41 R110: `RDHUM` at either of its phases. -/
def Obligations.RdhumReadsUnsignedSample : Prop :=
  Stands .rdhum 0x20 [0x10, 0x16] ∧
  ∀ s : State, s.cfg.ok = true →
    (∀ b0 b1, s.repliesPair s.cfg.aHum (some (b0, b1)) →
      ∃ w : Word, w.toNat = b0.toNat + 256 * b1.toNat ∧
        exec .rdhum s = .next { s with
          raw := { s.raw with hum := some w }
          ph := if s.ph = 0x10 then 0x11 else 0x17
          env := s.afterRead
          trace := s.trace ++ [.r2 s.cfg.devAddr (s.cfg.aHum ||| s.cfg.autoinc) (some (b0, b1))] }) ∧
    (s.repliesPair s.cfg.aHum none →
      exec .rdhum s = .next
        (s.sampleFailed (s.cfg.aHum ||| s.cfg.autoinc) (.r2 s.cfg.devAddr (s.cfg.aHum ||| s.cfg.autoinc) none)))

/-- 41 R113: `RDTEMP`, and `HS` = `Idle` at its phase (in the states of the invariant, StepKeepsInvariant). -/
def Obligations.RdtempReadsPattern : Prop :=
  Stands .rdtemp 0x23 [0x1A] ∧
  (∀ s : State, s.inv = true → s.ph = 0x1A → s.hs = .idle) ∧
  ∀ s : State, s.cfg.ok = true →
    (∀ b0 b1, s.repliesPair s.cfg.aTemp (some (b0, b1)) →
      ∃ w : Word, w.toNat = b0.toNat + 256 * b1.toNat ∧
        exec .rdtemp s = .next { s with
          raw := { s.raw with temp := some w }
          ph := 0x1B
          env := s.afterRead
          trace := s.trace ++ [.r2 s.cfg.devAddr (s.cfg.aTemp ||| s.cfg.autoinc) (some (b0, b1))] }) ∧
    (s.repliesPair s.cfg.aTemp none →
      exec .rdtemp s = .next
        (s.sampleFailed (s.cfg.aTemp ||| s.cfg.autoinc) (.r2 s.cfg.devAddr (s.cfg.aTemp ||| s.cfg.autoinc) none)))

/-- 41 R111: `CVHUM` at either of its phases, for any numerics and for the default one; the sample is unsigned (R106); in
the states of the invariant the calibration is valid at its phases. -/
def Obligations.CvhumConvertsHumidity : Prop :=
  Stands .cvhum 0x21 [0x11, 0x17] ∧
  (∀ s : State, s.inv = true → s.ph = 0x11 ∨ s.ph = 0x17 → s.f.calValid = true ∧ s.cal.usable = true) ∧
  ∀ (s : State) (raw h2 h3 : Word) (h0 h1 : BitVec 7),
    s.raw.hum = some raw → s.cal.h0 = some h0 → s.cal.h1 = some h1 → s.cal.h2 = some h2 → s.cal.h3 = some h3 →
    s.f.calValid = true → h3 ≠ h2 →
    ∃ u : F32,
      u = s.cfg.num.hum raw.toNat h0.toNat h1.toNat (sext16 h2) (sext16 h3) ∧
      (s.cfg.num = .oneRounding → u = rn32 (humQ raw.toNat h0.toNat h1.toNat (sext16 h2) (sext16 h3))) ∧
      exec .cvhum s = .next { s with
        phy := { s.phy with humU := some u }
        ph := if s.ph = 0x11 then 0x12 else 0x18 }

/-- 41 R112: `CLAMPH`, the comparisons on exact values; below 0 the copy is `0.0` (the positive zero, 93 U9), above 100 it is `100.0`;
`PHY.hum_u` is not changed. -/
def Obligations.ClamphLimitsReportedCopy : Prop :=
  Stands .clamph 0x22 [0x19] ∧ F32.zero.bits = 0x00000000 ∧ F32.zero.val.toRat = 0 ∧ F32.hundred.bits = 0x42C80000 ∧
  F32.hundred.val.toRat = 100 ∧
  ∀ (s : State) (u : F32), s.phy.humU = some u →
    ∃ r : F32,
      (u.val.toRat < 0 → r = F32.zero) ∧ (100 < u.val.toRat → r = F32.hundred) ∧
      (0 ≤ u.val.toRat → u.val.toRat ≤ 100 → r = u) ∧
      exec .clamph s = .next { s with phy := { s.phy with humR := some r }, ph := 0x1A }

/-- 41 R114: `CVTC`, for any numerics and for the default one; the sample is sign-extended; in the states of the invariant the calibration
is valid at its phase. -/
def Obligations.CvtcConvertsTemperature : Prop :=
  Stands .cvtc 0x24 [0x1B] ∧
  (∀ s : State, s.inv = true → s.ph = 0x1B → s.f.calValid = true ∧ s.cal.usable = true) ∧
  ∀ (s : State) (raw t2 t3 : Word) (t0 t1 : BitVec 10),
    s.raw.temp = some raw → s.cal.t0 = some t0 → s.cal.t1 = some t1 → s.cal.t2 = some t2 → s.cal.t3 = some t3 →
    s.f.calValid = true → t3 ≠ t2 →
    ∃ c : F32,
      c = s.cfg.num.tc (sext16 raw) t0.toNat t1.toNat (sext16 t2) (sext16 t3) ∧
      (s.cfg.num = .oneRounding → c = rn32 (tcQ (sext16 raw) t0.toNat t1.toNat (sext16 t2) (sext16 t3))) ∧
      exec .cvtc s = .next { s with phy := { s.phy with tempC := some c }, ph := 0x1C }

/-- 41 R115: `CVTF`, for any numerics and for the default one. -/
def Obligations.CvtfConvertsToFahrenheit : Prop :=
  Stands .cvtf 0x25 [0x1C] ∧
  ∀ (s : State) (c : F32), s.phy.tempC = some c →
    ∃ x : F32,
      x = s.cfg.num.tf c ∧ (s.cfg.num = .oneRounding → x = rn32 (tfQ c.val)) ∧
      exec .cvtf s = .next { s with phy := { s.phy with tempF := some x }, ph := 0x1D }

/-! ### Heater (family 3) -/

/-- 42 R121: `SATCHK`; the comparison is strict, on the exact value of the unclamped humidity. -/
def Obligations.SatchkBranchesAbove95 : Prop :=
  Stands .satchk 0x30 [0x12] ∧
  ∀ (s : State) (u : F32), s.phy.humU = some u →
    (95 < u.val.toRat → exec .satchk s = .next { s with f := { s.f with satUnres := false }, iter := 0, ph := 0x13 }) ∧
    (u.val.toRat ≤ 95 → exec .satchk s = .next { s with f := { s.f with satUnres := false }, iter := 0, ph := 0x19 })

/-- 42 R122: `HTRON`: a failed read, and a read that succeeded with the write answered either way. -/
def Obligations.HtronSetsHeaterBit : Prop :=
  Stands .htron 0x31 [0x13] ∧
  ∀ s : State, s.cfg.ok = true →
    (s.repliesByte s.cfg.aHeater none →
      exec .htron s = .next { s with
        hs := .heating, iter := s.iter + 1, ph := 0x14
        err := s.errNow 0x40 s.cfg.aHeater false
        env := s.afterRead
        trace := s.trace ++ [.r1 s.cfg.devAddr s.cfg.aHeater none, .log (s.errNow 0x40 s.cfg.aHeater false)] }) ∧
    (∀ b, s.repliesByte s.cfg.aHeater (some b) → busQuiet s.secondBus = true →
      (s.secondBus.ok = true →
        exec .htron s = .next { s with
          hs := .heating, iter := s.iter + 1, hreg := some b, ph := 0x14
          env := s.afterRmw s.cfg.aHeater (b ||| s.cfg.heaterMask)
          trace := s.trace ++ [.r1 s.cfg.devAddr s.cfg.aHeater (some b),
            .w1 s.cfg.devAddr s.cfg.aHeater (b ||| s.cfg.heaterMask) true] }) ∧
      (s.secondBus.ok = false →
        exec .htron s = .next { s with
          hs := .heating, iter := s.iter + 1, hreg := some b, ph := 0x14
          err := s.errNow 0x40 s.cfg.aHeater true
          env := s.afterRmw s.cfg.aHeater (b ||| s.cfg.heaterMask)
          trace := s.trace ++ [.r1 s.cfg.devAddr s.cfg.aHeater (some b),
            .w1 s.cfg.devAddr s.cfg.aHeater (b ||| s.cfg.heaterMask) false, .log (s.errNow 0x40 s.cfg.aHeater true)] }))

/-- 42 R124: `DWELL`, with `HS` = `Heating` at its phase (in the states of the invariant), and `TERM` after some of its ticks (60 R170,
R175). That a wait cut short leaves the item `wait k` of the ticks that passed on the trace is the model's choice (log 9). -/
def Obligations.DwellWaitsItsTicks : Prop :=
  Stands .dwell 0x32 [0x14] ∧
  (∀ s : State, s.inv = true → s.ph = 0x14 → s.hs = .heating) ∧
  ∀ s : State,
    (s.nextWait.what = .none →
      exec .dwell s = .next { s with
        tmr := 0, ph := 0x15, env := s.afterWait, trace := s.trace ++ [.wait (s.cfg.dwellS * s.cfg.tickHz)] }) ∧
    (s.nextWait.what = .term → s.nextWait.tick ≤ s.cfg.dwellS * s.cfg.tickHz →
      exec .dwell s = .next { s with
        tmr := s.cfg.dwellS * s.cfg.tickHz - s.nextWait.tick, f := { s.f with term := true }, env := s.afterWait
        trace := s.trace ++ [.wait s.nextWait.tick] })

/-- 42 R125: `HTROFF`: a failed read, a failed write, and success. -/
def Obligations.HtroffClearsHeaterBit : Prop :=
  Stands .htroff 0x33 [0x15] ∧
  ∀ s : State, s.cfg.ok = true →
    (s.repliesByte s.cfg.aHeater none →
      exec .htroff s = .next { s with
        hs := .idle, f := { s.f with htrUnsafe := true }, ph := 0x1E
        err := s.errNow 0x41 s.cfg.aHeater false
        env := s.afterRead
        trace := s.trace ++ [.r1 s.cfg.devAddr s.cfg.aHeater none, .log (s.errNow 0x41 s.cfg.aHeater false)] }) ∧
    (∀ b, s.repliesByte s.cfg.aHeater (some b) → busQuiet s.secondBus = true →
      (s.secondBus.ok = true →
        exec .htroff s = .next { s with
          hs := .cooldown, f := { s.f with htrUnsafe := false }, hreg := some b, ph := 0x16
          env := s.afterRmw s.cfg.aHeater (b &&& ~~~s.cfg.heaterMask)
          trace := s.trace ++ [.r1 s.cfg.devAddr s.cfg.aHeater (some b),
            .w1 s.cfg.devAddr s.cfg.aHeater (b &&& ~~~s.cfg.heaterMask) true] }) ∧
      (s.secondBus.ok = false →
        exec .htroff s = .next { s with
          hs := .idle, f := { s.f with htrUnsafe := true }, hreg := some b, ph := 0x1E
          err := s.errNow 0x41 s.cfg.aHeater true
          env := s.afterRmw s.cfg.aHeater (b &&& ~~~s.cfg.heaterMask)
          trace := s.trace ++ [.r1 s.cfg.devAddr s.cfg.aHeater (some b),
            .w1 s.cfg.devAddr s.cfg.aHeater (b &&& ~~~s.cfg.heaterMask) false, .log (s.errNow 0x41 s.cfg.aHeater true)] }))

/-- 42 R126: `RETRY`: loop, give up, finish; `ITER <= HEATER_MAX_ITER` (in the states of the invariant). -/
def Obligations.RetryLoopsWithinBudget : Prop :=
  Stands .retry 0x34 [0x18] ∧
  (∀ s : State, s.inv = true → s.iter.toNat ≤ s.cfg.heaterMaxIter) ∧
  ∀ (s : State) (u : F32), s.phy.humU = some u →
    (95 < u.val.toRat → s.iter.toNat < s.cfg.heaterMaxIter → exec .retry s = .next { s with ph := 0x13 }) ∧
    (95 < u.val.toRat → s.cfg.heaterMaxIter ≤ s.iter.toNat →
      exec .retry s = .next { s with
        f := { s.f with satUnres := true }, hs := .idle, ph := 0x19
        err := s.errNow 0x42 0xFF false
        trace := s.trace ++ [.log (s.errNow 0x42 0xFF false)] }) ∧
    (u.val.toRat ≤ 95 → exec .retry s = .next { s with hs := .idle, ph := 0x19 })

/-! ### Sequencing (family 4) -/

/-- 43 R150: `EMIT`, both answers of the sink; nothing but the clamped copy and the two temperatures enters the record, which under the
numerics the spec writes out is the text of 30 R66 (41 R108). -/
def Obligations.EmitSendsOneRecord : Prop :=
  Stands .emit 0x40 [0x1D] ∧
  ∀ (s : State) (h c f : F32) (text : List Byte),
    s.phy.humR = some h → s.phy.tempC = some c → s.phy.tempF = some f → sinkQuiet s.nextSink = true →
    text = s.cfg.num.fmt2 h ++ [0x25, 0x0A] ++ s.cfg.num.fmt2 c ++ [0x0A] ++ s.cfg.num.fmt2 f ++ [0x0A] →
    (s.cfg.num = .oneRounding ∨ s.cfg.num = .perOperation →
      text = fmt2 h ++ [0x25, 0x0A] ++ fmt2 c ++ [0x0A] ++ fmt2 f ++ [0x0A]) ∧
    (s.nextSink.ok = true →
      exec .emit s = .next { s with ph := 0x1E, env := s.afterSink text, trace := s.trace ++ [.sink text true] }) ∧
    (s.nextSink.ok = false →
      exec .emit s = .next { s with
        hs := .idle, ph := 0x1E, err := s.errNow 0x50 0xFF true, env := s.afterSink text
        trace := s.trace ++ [.sink text false, .log (s.errNow 0x50 0xFF true)] })

/-- 43 R151: `SLEEP` when nothing cuts the wait short, and `HS` = `Idle` at its phase (in the states of the invariant). -/
def Obligations.SleepStartsFreshCycle : Prop :=
  Stands .sleep 0x41 [0x1E] ∧
  (∀ s : State, s.inv = true → s.ph = 0x1E → s.hs = .idle) ∧
  ∀ s : State, s.nextWait.what = .none →
    exec .sleep s = .next { s with
      raw := { hum := none, temp := none }
      phy := { humU := none, humR := none, tempC := none, tempF := none }
      hreg := none, tmr := 0, ph := 0x10, env := s.afterWait
      trace := s.trace ++ [.wait (10 * s.cfg.tickHz)] }

/-- 43 R153: `HALT`; and a block at 0x3F stays there, with nothing on any port, until `RESET`. -/
def Obligations.HaltedBlockIsSilent : Prop :=
  Stands .halt 0x42 [0x3F] ∧
  (∀ s : State, exec .halt s = .next { s with f := { s.f with halted := true }, ph := 0x3F }) ∧
  ∀ s t : State, s.ph = 0x3F → s.nextEvent ≠ .reset → step s = .next t →
    t.ph = 0x3F ∧ t.trace = s.trace ∧ t.env.dev = s.env.dev ∧ t.env.sink = s.env.sink ∧
      t = { s with f := t.f, env := t.env } ∧ (t.f = { s.f with halted := true } ∨ t.f = { s.f with term := true })

/-! ### Numbers -/

/-- 41 R100: the rule, its range, and the five values it lists. -/
def Obligations.SignExtensionRule : Prop :=
  (∀ v : Word, (v.toNat < 32768 → sext16 v = v.toNat) ∧ (32768 ≤ v.toNat → sext16 v = (v.toNat : Int) - 65536) ∧
    -32768 ≤ sext16 v ∧ sext16 v ≤ 32767) ∧
  sext16 0 = 0 ∧ sext16 32767 = 32767 ∧ sext16 32768 = -32768 ∧ sext16 65280 = -256 ∧ sext16 65535 = -1

/-- 41 R101, R102: halving is floor division by 2; the two 10-bit fields are `high2 * 256 + low8`. -/
def Obligations.HalvingAndUnpacking : Prop :=
  (∀ b : Byte, (halve b).toNat = b.toNat / 2) ∧
  (∀ m l : Byte, (packedT0 m l).toNat = unpack10 (m.toNat % 4) l.toNat ∧ (packedT1 m l).toNat = unpack10 (m.toNat / 4 % 4) l.toNat)

/-- 41 R104: `hum_q` is the formula over the rationals, and stays below 2^24. -/
def Obligations.HumidityFormulaExact : Prop :=
  ∀ (raw h2 h3 : Word) (h0 h1 : BitVec 7), h3 ≠ h2 →
    let q := (humQ raw.toNat h0.toNat h1.toNat (sext16 h2) (sext16 h3)).toRat
    q = ((h1.toNat : ℚ) - h0.toNat) * ((raw.toNat : ℚ) - sext16 h2) / ((sext16 h3 : ℚ) - sext16 h2) + h0.toNat ∧
      |q| ≤ 12484608 ∧ (h1 = h0 → q = h0.toNat)

/-- 41 R105, R107: `tc_q` and `tf_q` are the formulas over the rationals; `tc_q` stays below 2^24. -/
def Obligations.TemperatureFormulasExact : Prop :=
  (∀ (raw t2 t3 : Word) (t0 t1 : BitVec 10), t3 ≠ t2 →
    let q := (tcQ (sext16 raw) t0.toNat t1.toNat (sext16 t2) (sext16 t3)).toRat
    q = (((t1.toNat : ℚ) - t0.toNat) / 8) * ((sext16 raw : ℚ) - sext16 t2) / ((sext16 t3 : ℚ) - sext16 t2) + (t0.toNat : ℚ) / 8 ∧
      |q| < 2 ^ 24 ∧ (t1 = t0 → q = (t0.toNat : ℚ) / 8)) ∧
  (∀ c : F32, (tfQ c.val).toRat = c.val.toRat * (9 / 5) + 32)

/-- 00 R8: `rn32` gives a binary32 value nearest to `q` among the finite ones, and where another value is as near, one whose lowest
significand bit is 0; `q` up to the largest finite value, `(2^24 - 1) * 2^104` (beyond it log 19; finite values only, log 3). -/
def Obligations.RoundingIsNearestTiesEven : Prop :=
  ∀ (q : Frac) (x : F32), 0 < q.den → |q.toRat| ≤ (2 ^ 24 - 1) * 2 ^ 104 →
    |(rn32 q).val.toRat - q.toRat| ≤ |x.val.toRat - q.toRat| ∧
      (|x.val.toRat - q.toRat| = |(rn32 q).val.toRat - q.toRat| → x.val.toRat ≠ (rn32 q).val.toRat → (rn32 q).mag.val % 2 = 0)

/-- 41 R117: the exact formulas and the default numerics pass exactly through the anchor points. -/
def Obligations.AnchorsAreExact : Prop :=
  (∀ (h2 h3 : Word) (h0 h1 : BitVec 7) (raw : Nat), h3 ≠ h2 → raw < 65536 →
    ((raw : Int) = sext16 h2 →
      (humQ raw h0.toNat h1.toNat (sext16 h2) (sext16 h3)).toRat = h0.toNat ∧
      (NumKind.oneRounding.hum raw h0.toNat h1.toNat (sext16 h2) (sext16 h3)).val.toRat = h0.toNat) ∧
    ((raw : Int) = sext16 h3 →
      (humQ raw h0.toNat h1.toNat (sext16 h2) (sext16 h3)).toRat = h1.toNat ∧
      (NumKind.oneRounding.hum raw h0.toNat h1.toNat (sext16 h2) (sext16 h3)).val.toRat = h1.toNat)) ∧
  (∀ (t2 t3 : Word) (t0 t1 : BitVec 10), t3 ≠ t2 →
    (tcQ (sext16 t2) t0.toNat t1.toNat (sext16 t2) (sext16 t3)).toRat = (t0.toNat : ℚ) / 8 ∧
    (tcQ (sext16 t3) t0.toNat t1.toNat (sext16 t2) (sext16 t3)).toRat = (t1.toNat : ℚ) / 8 ∧
    (NumKind.oneRounding.tc (sext16 t2) t0.toNat t1.toNat (sext16 t2) (sext16 t3)).val.toRat = (t0.toNat : ℚ) / 8 ∧
    (NumKind.oneRounding.tc (sext16 t3) t0.toNat t1.toNat (sext16 t2) (sext16 t3)).val.toRat = (t1.toNat : ℚ) / 8)

/-- 41 R118: comparing the rounded humidity with 95, 100 and 0 agrees with comparing the exact one. -/
def Obligations.ThresholdAgreesWithExactHumidity : Prop :=
  ∀ (raw h2 h3 : Word) (h0 h1 : BitVec 7), h3 ≠ h2 →
    let u := (NumKind.oneRounding.hum raw.toNat h0.toNat h1.toNat (sext16 h2) (sext16 h3)).val.toRat
    let q := (humQ raw.toNat h0.toNat h1.toNat (sext16 h2) (sext16 h3)).toRat
    (95 < u ↔ 95 < q) ∧ (100 < u ↔ 100 < q) ∧ (u < 0 ↔ q < 0)

/-- 30 R66: the record is three lines of `fmt2`; `fmt2` is a sign, the decimal digits of the integer part with no superfluous zero, a point and two digits, of the number
nearest to a hundred times the exact value (ties to even); a number that rounds to zero has no sign. -/
def Obligations.Fmt2PrintsTwoDecimals : Prop :=
  (∀ h c f : F32, recordText fmt2 h c f = fmt2 h ++ [0x25, 0x0A] ++ fmt2 c ++ [0x0A] ++ fmt2 f ++ [0x0A]) ∧
  ∀ x : F32, ∃ (n : Nat) (ip : List Byte) (d1 d2 : Byte),
    abs ((n : ℚ) - 100 * abs x.val.toRat) ≤ 1 / 2 ∧ (abs ((n : ℚ) - 100 * abs x.val.toRat) = 1 / 2 → n % 2 = 0) ∧
    fmt2 x = (if x.neg = true ∧ n ≠ 0 then [0x2D] else []) ++ ip ++ [0x2E, d1, d2] ∧
    digitsValue ip = n / 100 ∧ digitsValue [d1, d2] = n % 100 ∧ ip ≠ [] ∧ (ip.head? = some 0x30 → ip = [0x30]) ∧
    (∀ b ∈ d1 :: d2 :: ip, 0x30 ≤ b.toNat ∧ b.toNat ≤ 0x39)

/-! ### Errors -/

/-- 60 R160, R162, R163, R164, R165, R166: what each `raise` does: the record in `ERR` and on `LOG`, then the entry of the error's class. -/
def Obligations.RaiseRecordsAndEnters : Prop :=
  ∀ (s : State) (addr : Byte) (rw : Bool),
    s.raise .configurationError addr rw =
      { s with ph := 0x3F, err := s.errNow 0x10 addr rw, trace := s.trace ++ [.log (s.errNow 0x10 addr rw)] } ∧
    s.raise .calibrationError addr rw =
      { s with ph := 0x3F, cal := {}, lat := {}, err := s.errNow 0x20 addr rw, trace := s.trace ++ [.log (s.errNow 0x20 addr rw)] } ∧
    s.raise .conversionDomainError addr rw =
      { s with ph := 0x3F, cal := {}, lat := {}, err := s.errNow 0x21 addr rw, trace := s.trace ++ [.log (s.errNow 0x21 addr rw)] } ∧
    s.raise .busIoError addr rw =
      { s with ph := 0x1E, hs := .idle, err := s.errNow 0x30 addr rw, trace := s.trace ++ [.log (s.errNow 0x30 addr rw)] } ∧
    s.raise .heaterEnableFailed addr rw =
      { s with err := s.errNow 0x40 addr rw, trace := s.trace ++ [.log (s.errNow 0x40 addr rw)] } ∧
    s.raise .heaterDisableFailed addr rw =
      { s with ph := 0x1E, hs := .idle, err := s.errNow 0x41 addr rw, trace := s.trace ++ [.log (s.errNow 0x41 addr rw)] } ∧
    s.raise .heaterSaturationUnresolved addr rw =
      { s with err := s.errNow 0x42 addr rw, trace := s.trace ++ [.log (s.errNow 0x42 addr rw)] } ∧
    s.raise .outputIoError addr rw =
      { s with ph := 0x1E, hs := .idle, err := s.errNow 0x50 addr rw, trace := s.trace ++ [.log (s.errNow 0x50 addr rw)] }

/-- 60 R163, R172; 92 D1: a step only adds to the trace, at most two bus transactions, one sink request and one `LOG` record; without
a `RESET`, `ERR` becomes that record, or stays. -/
def Obligations.StepPortsAreBounded : Prop :=
  ∀ s t : State, step s = .next t →
    ∃ es, t.trace = s.trace ++ es ∧ (es.filter Event.isBus).length ≤ 2 ∧ (es.filter Event.isSink).length ≤ 1 ∧
      (logged es).length ≤ 1 ∧ (s.noReset → t.err = (logged es).getLastD s.err)

/-! ### TERM -/

/-- 60 R170, 43 R142: `TERM` between two steps sets `F.term` and changes no other register. -/
def Obligations.TermBetweenStepsSetsFlag : Prop :=
  ∀ s : State, s.cfg.ok = true → s.nextEvent = .term → s.f.term = false →
    ∃ t, step s = .next t ∧ t = { s with f := { s.f with term := true }, env := t.env } ∧ t.env.dev = s.env.dev ∧
      t.env.sink = s.env.sink

/-- 43 R142, 60 R170, 10 R31: after `TERM` there is no step; only `RESET` goes on. (The stop's name is the model's, log 8.) -/
def Obligations.TerminatedBlockTakesNoStep : Prop :=
  ∀ s : State, s.cfg.ok = true → s.f.term = true → s.nextEvent ≠ .reset → step s = .fault .terminated

/-- 60 R170: `TERM` taken before the first request of an op leaves every register, the device and the sink as they were, but for what
`HTRON` writes before its read. -/
def Obligations.TermBeforeRequestKeepsState : Prop :=
  ∀ s : State, s.cfg.ok = true →
    (s.nextBus.before = .term →
      (∀ i ∈ busOps, i ≠ .htron →
        ∃ t, exec i s = .next t ∧ t = { s with f := { s.f with term := true }, env := t.env } ∧ t.env.dev = s.env.dev) ∧
      ∃ t, exec .htron s = .next t ∧ t = { s with hs := .heating, iter := s.iter + 1, f := { s.f with term := true }, env := t.env } ∧
        t.env.dev = s.env.dev) ∧
    (s.phy.humR.isSome = true → s.phy.tempC.isSome = true → s.phy.tempF.isSome = true → s.nextSink.before = .term →
      ∃ t, exec .emit s = .next t ∧ t = { s with f := { s.f with term := true }, env := t.env } ∧ t.env.sink = s.env.sink)

/-- 60 R170, R173: `TERM` taken after the response of an op's one transaction, or of `EMIT`'s sink request, whatever the response: the
transaction is on the trace, the environment is as it left it, and nothing the pseudocode lists after it is done (log 7): no register
loaded, no error raised, no phase changed. -/
def Obligations.TermAfterResponseKeepsState : Prop :=
  ∀ s : State, s.cfg.ok = true →
    (s.nextBus.before = .none → s.nextBus.after = .term →
      (∀ p ∈ byteReads s.cfg,
        exec p.1 s = .next { s with
          f := { s.f with term := true }, env := s.afterRead
          trace := s.trace ++ [.r1 s.cfg.devAddr p.2 (replyByte s.nextBus s.cells p.2.toNat)] }) ∧
      (∀ p ∈ pairReads s.cfg,
        exec p.1 s = .next { s with
          f := { s.f with term := true }, env := s.afterRead
          trace := s.trace ++ [.r2 s.cfg.devAddr (p.2 ||| s.cfg.autoinc) (replyPair s.nextBus s.cells p.2.toNat)] }) ∧
      (∀ p ∈ configWrites s.cfg,
        exec p.1 s = .next { s with
          f := { s.f with term := true }, env := s.afterWrite p.2.1 p.2.2
          trace := s.trace ++ [.w1 s.cfg.devAddr p.2.1 p.2.2 s.nextBus.ok] })) ∧
    (∀ h c f, s.phy.humR = some h → s.phy.tempC = some c → s.phy.tempF = some f →
      s.nextSink.before = .none → s.nextSink.after = .term →
      exec .emit s = .next { s with
        f := { s.f with term := true }, env := s.afterSink (recordText s.cfg.num.fmt2 h c f)
        trace := s.trace ++ [.sink (recordText s.cfg.num.fmt2 h c f) s.nextSink.ok] })

/-- 60 R170, 42 R123, 70 R201: `TERM` inside `HTRON` and `HTROFF`: after the read's response (`HREG` not yet written), between the read and
the write (the write not issued), and after the write's response, whatever the responses. The writes the pseudocode lists before that
point are made and none after (log 7). -/
def Obligations.TermInsideHeaterOpsKeepsEarlierWrites : Prop :=
  ∀ s : State, s.cfg.ok = true →
    (s.nextBus.before = .none → s.nextBus.after = .term →
      exec .htron s = .next { s with
        hs := .heating, iter := s.iter + 1, f := { s.f with term := true }, env := s.afterRead
        trace := s.trace ++ [.r1 s.cfg.devAddr s.cfg.aHeater (replyByte s.nextBus s.cells s.cfg.aHeater.toNat)] } ∧
      exec .htroff s = .next { s with
        f := { s.f with term := true }, env := s.afterRead
        trace := s.trace ++ [.r1 s.cfg.devAddr s.cfg.aHeater (replyByte s.nextBus s.cells s.cfg.aHeater.toNat)] }) ∧
    (∀ b, s.repliesByte s.cfg.aHeater (some b) →
      (s.secondBus.before = .term →
        (∃ t, exec .htron s = .next t ∧
          t = { s with
            hs := .heating, iter := s.iter + 1, hreg := some b, f := { s.f with term := true }, env := t.env
            trace := s.trace ++ [.r1 s.cfg.devAddr s.cfg.aHeater (some b)] } ∧
          t.env.dev = readCells s.nextBus s.cells) ∧
        ∃ t, exec .htroff s = .next t ∧
          t = { s with
            hreg := some b, f := { s.f with term := true }, env := t.env
            trace := s.trace ++ [.r1 s.cfg.devAddr s.cfg.aHeater (some b)] } ∧
          t.env.dev = readCells s.nextBus s.cells) ∧
      (s.secondBus.before = .none → s.secondBus.after = .term →
        exec .htron s = .next { s with
          hs := .heating, iter := s.iter + 1, hreg := some b, f := { s.f with term := true }
          env := s.afterRmw s.cfg.aHeater (b ||| s.cfg.heaterMask)
          trace := s.trace ++ [.r1 s.cfg.devAddr s.cfg.aHeater (some b),
            .w1 s.cfg.devAddr s.cfg.aHeater (b ||| s.cfg.heaterMask) s.secondBus.ok] } ∧
        exec .htroff s = .next { s with
          hreg := some b, f := { s.f with term := true }
          env := s.afterRmw s.cfg.aHeater (b &&& ~~~s.cfg.heaterMask)
          trace := s.trace ++ [.r1 s.cfg.devAddr s.cfg.aHeater (some b),
            .w1 s.cfg.devAddr s.cfg.aHeater (b &&& ~~~s.cfg.heaterMask) s.secondBus.ok] }))

/-- 60 R170, R175: `TERM` inside the wait of `DWELL` or `SLEEP`, after any number of its ticks up to all of them: `TMR` holds the rest, the
phase and the ephemeral registers are as they were. The item `wait k` on the trace is the model's choice (log 9). -/
def Obligations.TermInsideWaitKeepsRest : Prop :=
  ∀ s : State, s.nextWait.what = .term →
    ∀ p ∈ [(Instr.dwell, s.cfg.dwellS * s.cfg.tickHz), (Instr.sleep, 10 * s.cfg.tickHz)],
      exec p.1 s = .next { s with
        tmr := p.2 - min s.nextWait.tick p.2, f := { s.f with term := true }, env := s.afterWait
        trace := s.trace ++ [.wait (min s.nextWait.tick p.2)] }

/-! ### The machine as a whole -/

/-- The reset state meets the invariant, and so does the reset block under every configuration that meets 00 R7 and in every environment
whose device cells are in canonical form. -/
def Obligations.ResetMeetsInvariant : Prop :=
  State.reset.inv = true ∧
  ∀ (c : Cfg) (e : Env), c.ok = true → Memory.wf e.dev = true → ({ State.reset with cfg := c, env := e } : State).inv = true

/-- 10 R35, 42 R130 (with log 17): every step keeps the invariant of the reachable states. -/
def Obligations.StepKeepsInvariant : Prop :=
  ∀ s t : State, s.inv = true → step s = .next t → t.inv = true

/-- 10 R35 (c), 42 R130, as far as the ops' own rules bear them out (log 17). In the states of the invariant, at every phase but 0x13, `HS` is
`Heating` exactly at 0x14 and 0x15, `Cooldown` exactly at 0x16, 0x17 and 0x18, `Idle` exactly elsewhere. At 0x13 it is `Idle` as long as no
`HTRON` of the cycle has begun; then still `Cooldown` (42 R126, 95 V9), in a live block with an iteration left; or already `Heating`, in a block
terminated inside `HTRON` (60 R170). A step that leaves a block at 0x13 in `Cooldown` is the `RETRY` at 0x18, or the `TERM` taken right after it. -/
def Obligations.HeaterStateFollowsPhase : Prop :=
  (∀ s : State, s.inv = true →
    (s.ph ≠ 0x13 →
      (s.hs = .heating ↔ s.ph = 0x14 ∨ s.ph = 0x15) ∧
      (s.hs = .cooldown ↔ s.ph = 0x16 ∨ s.ph = 0x17 ∨ s.ph = 0x18) ∧
      (s.hs = .idle ↔ s.ph.toNat < 0x13 ∨ 0x18 < s.ph.toNat)) ∧
    (s.ph = 0x13 →
      (s.hs = .idle ∧ s.iter = 0) ∨
      (s.hs = .cooldown ∧ 1 ≤ s.iter.toNat ∧ (s.f.term = false → s.iter.toNat < s.cfg.heaterMaxIter)) ∨
      (s.hs = .heating ∧ 1 ≤ s.iter.toNat ∧ s.f.term = true))) ∧
  ∀ s t : State, s.inv = true → step s = .next t → t.ph = 0x13 → t.hs = .cooldown →
    s.hs = .cooldown ∧ (s.ph = 0x18 ∨ (s.ph = 0x13 ∧ t.f.term = true))

/-- 60 R181, 10 R11: from a state that meets the invariant no step ends in a model fault or a refusal; it gives a next state, or the
block was terminated. -/
def Obligations.NoModelFaultIsReachable : Prop :=
  ∀ s : State, s.inv = true → (∃ t, step s = .next t) ∨ (s.f.term = true ∧ step s = .fault .terminated)

/-- 70 R204, 10 R19, 42 R132: under P1 and P2 for the bus answers the step draws and without a `RESET` in it, a step keeps this: unless the last
disable failed or the block is `Heating`, the device's heater bit is 0. -/
def Obligations.HeaterOffUnlessHeating : Prop :=
  ∀ s t : State, s.inv = true → s.heaterSafe = true → s.noReset →
    (∀ an ∈ s.stepAnswers, P1 s.cfg an ∧ P2 an) → step s = .next t → t.heaterSafe = true

/-- 70 R192, R204: at reset, under every configuration, the same holds exactly under P4, and in the phases after an intervention it says the device's bit is 0. -/
def Obligations.HeaterOffAtResetNeedsP4 : Prop :=
  (∀ (c : Cfg) (e : Env),
    P4 { State.reset with cfg := c, env := e } ↔ ({ State.reset with cfg := c, env := e } : State).heaterSafe = true) ∧
  (∀ s : State, s.inv = true → s.heaterSafe = true → s.f.htrUnsafe = false →
    (0x19 ≤ s.ph.toNat ∧ s.ph.toNat ≤ 0x1E) ∨ (0x10 ≤ s.ph.toNat ∧ s.ph.toNat ≤ 0x12) → s.hs = .idle ∧ s.heaterBit = false)

/-- Every step keeps the canonical form of the device's cells. -/
def Obligations.StepKeepsMemoryForm : Prop :=
  Memory.wf State.reset.env.dev = true ∧
  ∀ s t : State, Memory.wf s.env.dev = true → step s = .next t → Memory.wf t.env.dev = true

/-- 10 R24, R25, 20 R40, R41, R42, R43: every bus request of a step is one the block may make. That no step, a `RESET` among them, changes the
configuration is the model's choice of carrying this parameter of 10 R34 in the state (logs 1 and 16). -/
def Obligations.StepIssuesOnlyLegalRequests : Prop :=
  ∀ s t : State, step s = .next t → t.cfg = s.cfg ∧ ∃ es, t.trace = s.trace ++ es ∧ ∀ e ∈ es, e.legal s.cfg = true

/-- 42 R129: the byte the heater ops write equals the byte read but in the one mask bit, which is 1 after `HTRON`'s and 0 after `HTROFF`'s;
42 R123: under P1, and where a read returns the cell (`ReadsCells`, log 23), the device's seven other bits are the same after either op,
whatever is answered and wherever it ends. -/
def Obligations.HeaterByteDiffersInOneBit : Prop :=
  (∀ (c : Cfg) (b : Byte), c.ok = true →
    heaterOn c.heaterMask b &&& ~~~c.heaterMask = b &&& ~~~c.heaterMask ∧ heaterOn c.heaterMask b &&& c.heaterMask ≠ 0 ∧
    heaterOff c.heaterMask b &&& ~~~c.heaterMask = b &&& ~~~c.heaterMask ∧ heaterOff c.heaterMask b &&& c.heaterMask = 0) ∧
  ∀ (s t : State), ∀ i ∈ heaterOps, s.cfg.ok = true → (∀ an ∈ s.opAnswers i, P1 s.cfg an ∧ ReadsCells an) → exec i s = .next t →
    Memory.cell t.env.dev s.cfg.aHeater.toNat &&& ~~~s.cfg.heaterMask =
      Memory.cell s.env.dev s.cfg.aHeater.toNat &&& ~~~s.cfg.heaterMask

/-- 40 R97, 10 R35 (e): once valid, the calibration does not change until `RESET`, and the bus requests are those of a cycle: the heater
register and the two data pairs, no calibration register. -/
def Obligations.CalibrationIsImmutable : Prop :=
  ∀ s t : State, s.inv = true → s.f.calValid = true → s.noReset → step s = .next t →
    t.cal = s.cal ∧ t.f.calValid = true ∧ ∃ es, t.trace = s.trace ++ es ∧ ∀ e ∈ es, e.inCycle s.cfg = true

/-- 43 R141, R143: without `TERM` and `RESET`, a step goes to a successor of its phase. -/
def Obligations.StepGoesToSuccessor : Prop :=
  ∀ s t : State, s.noReset → s.noTerm → step s = .next t → t.ph ∈ successors s.ph

/-- 20 R47, R53: an op that writes nothing on the bus changes no cell but those the environment changes at its transactions
(`changes`: before them, and the side effects a read may have, R49); an op that writes changes no cell but those and its own. So under P3 no op changes a calibration cell. -/
def Obligations.MemoryFrame : Prop :=
  (∀ (s t : State) (i : Instr), s.cfg.ok = true → (∀ an ∈ s.opAnswers i, P3 s.cfg an) → exec i s = .next t →
    ∀ a ∈ s.cfg.calCells, Memory.read t.env.dev a.toNat = Memory.read s.env.dev a.toNat) ∧
  ∀ (s t : State) (i : Instr) (a : Nat), exec i s = .next t →
    (∀ an ∈ s.opAnswers i, ∀ p ∈ changes an, p.1 ≠ a) →
    (i = .cfgav → a ≠ s.cfg.aAvconf.toNat) → (i = .cfgctl → a ≠ s.cfg.aCtrl.toNat) →
    (i = .htron ∨ i = .htroff → a ≠ s.cfg.aHeater.toNat) →
    Memory.read t.env.dev a = Memory.read s.env.dev a

/-- 20 R43, R53 (P2): after a write the cell holds the byte written, if the environment lets it take; else it is as it was. -/
def Obligations.WriteTakesEffectUnderP2 : Prop :=
  ∀ (an : BusAnswer) (m : Memory) (a : Nat) (v : Byte), a < 128 →
    (P2 an → an.ok = true → Memory.read (writtenCells an m a v) a = some v) ∧
    (Memory.read (writtenCells an m a v) a = some v ∨ writtenCells an m a v = m) ∧
    (∀ b, b ≠ a → Memory.read (writtenCells an m a v) b = Memory.read m b)

/-- 20 R42, R48: a two-byte read gives both bytes or none; a count other than two is `Err`; by default they are the cells `a`, `a + 1`. -/
def Obligations.PairReadIsAllOrNothing : Prop :=
  ∀ (an : BusAnswer) (m : Memory) (a : Nat),
    (an.ok = false → replyPair an m a = none) ∧
    (an.ok = true → an.bytes = none → replyPair an m a = some (Memory.cell m a, Memory.cell m (a + 1))) ∧
    (∀ l, an.ok = true → an.bytes = some l → l.length ≠ 2 → replyPair an m a = none) ∧
    (∀ b0 b1, an.ok = true → an.bytes = some [b0, b1] → replyPair an m a = some (b0, b1))

/-! ### Encoding and sequencing -/

/-- 43 R141, R142: a step with neither `TERM` nor `RESET` before it runs the op at its phase; what comes around it is the drawing of that one
choice. That the op is kept as a code which the decoder reads at every step is the model's choice (log 11): R142 says there is no decode of
bits at run time. -/
def Obligations.StepRunsDecodedOp : Prop :=
  ∀ (s : State) (c : Byte) (i : Instr),
    s.cfg.ok = true → s.nextEvent = .none → s.f.term = false → s.hs ≠ .pattern3 → romCode s.ph = some c →
    decode [c] = .ok (i, []) → i.wf = true →
    step s = exec i { s with env := { s.env with events := s.env.events.tail, draws := s.env.draws + 1 } }

/-- 43 R141: the op at every legal phase, and no other phase has one. -/
def Obligations.MicroprogramTable : Prop :=
  (∀ p ∈ ([(0x00, .cfgav), (0x01, .cfgctl), (0x02, .ldh0), (0x03, .ldh1), (0x04, .ldh2), (0x05, .ldh3), (0x06, .ldt0l),
      (0x07, .ldt1l), (0x08, .ldtmsb), (0x09, .unpkt), (0x0A, .ldt2), (0x0B, .ldt3), (0x0C, .chkcal), (0x10, .rdhum),
      (0x11, .cvhum), (0x12, .satchk), (0x13, .htron), (0x14, .dwell), (0x15, .htroff), (0x16, .rdhum), (0x17, .cvhum),
      (0x18, .retry), (0x19, .clamph), (0x1A, .rdtemp), (0x1B, .cvtc), (0x1C, .cvtf), (0x1D, .emit), (0x1E, .sleep),
      (0x3F, .halt)] : List (Byte × Instr)), (romCode p.1).bind decodeOp = some p.2) ∧
  (∀ ph : Byte, (0x0C < ph.toNat ∧ ph.toNat < 0x10) ∨ (0x1E < ph.toNat ∧ ph.toNat ≠ 0x3F) → romCode ph = none)

/-- 30 R67: one code of each family, written out from the table, decodes to its op. -/
def Obligations.CodesDecodeAsTabled : Prop :=
  decode [0x01] = .ok (.cfgctl, []) ∧ decode [0x1A] = .ok (.chkcal, []) ∧ decode [0x23] = .ok (.rdtemp, []) ∧
  decode [0x33] = .ok (.htroff, []) ∧ decode [0x42] = .ok (.halt, [])

/-- 30 R67: decoding an encoded op gives it back whatever follows, and every op decoded stands first in the bytes; likewise for whole
sequences, in both directions. -/
def Obligations.DecodeInvertsEncode : Prop :=
  (∀ (i : Instr) (rest : List Byte), i.wf = true → decode (encode i ++ rest) = .ok (i, rest)) ∧
  (∀ (i : Instr) (bs rest : List Byte), decode bs = .ok (i, rest) → bs = encode i ++ rest) ∧
  (∀ (is : List Instr) (bs : List Byte), decodeAll bs = some is ↔ bs = encodeAll is)

/-- 30 R69, 60 R181 (c): a code that is none of the 27 names no op and is refused by name; the microprogram holds none. -/
def Obligations.OtherCodesAreRefused : Prop :=
  (∀ (c : Byte) (rest : List Byte), (∀ i : Instr, i.code ≠ c) → decode (c :: rest) = .error (.noSuchCode c)) ∧
  ∀ ph c : Byte, romCode ph = some c → ∃ i : Instr, decodeOp c = some i ∧ i.code = c

/-! ### Model faults and refusals -/

/-- 60 R181 (a), (d), 10 R11, 70 R200: an op ends in the model fault of a register that holds no value exactly if it reads one
(`State.operands` lists what each op reads), and names the first in the model's reading order (log 13); a conversion with all its operands
but without a valid calibration or with a zero denominator is a model fault too. -/
def Obligations.OpsFaultWithoutOperands : Prop :=
  ∀ s : State,
    (∀ (i : Instr) (r : RegName), exec i s = .fault (.noValue r) ↔ s.missing i = some r) ∧
    (∀ raw h2 h3 h0 h1, s.raw.hum = some raw → s.cal.h0 = some h0 → s.cal.h1 = some h1 → s.cal.h2 = some h2 → s.cal.h3 = some h3 →
      (s.f.calValid = false → exec .cvhum s = .fault .calNotValid) ∧
      (s.f.calValid = true → h3 = h2 → exec .cvhum s = .fault .zeroDenominator)) ∧
    (∀ raw t2 t3 t0 t1, s.raw.temp = some raw → s.cal.t0 = some t0 → s.cal.t1 = some t1 → s.cal.t2 = some t2 → s.cal.t3 = some t3 →
      (s.f.calValid = false → exec .cvtc s = .fault .calNotValid) ∧
      (s.f.calValid = true → t3 = t2 → exec .cvtc s = .fault .zeroDenominator))

/-- 60 R181 (b), (e), (f), 00 R7: a step at an illegal phase, with `HS` = 3, or under a configuration that breaks R7. R181 gives no order
between them: that `HS` = 3 is named also at an illegal phase is the model's choice (log 13). -/
def Obligations.StepFaultsAndRefusals : Prop :=
  (∀ s : State, s.cfg.ok = false → step s = .refused .badConfig) ∧
  (∀ s : State, s.cfg.ok = true → s.nextEvent = .none → s.f.term = false → s.hs = .pattern3 → step s = .fault .badHeaterState) ∧
  (∀ s : State, s.cfg.ok = true → s.nextEvent = .none → s.f.term = false → s.hs ≠ .pattern3 → romCode s.ph = none →
    step s = .fault (.badPhase s.ph))

/-- 00 R7: a configuration is accepted exactly if it meets the rule's constraints. -/
def Obligations.ConfigurationConstraints : Prop :=
  ∀ c : Cfg, c.ok = true ↔
    (∀ a ∈ c.bases, a.toNat ≤ 0x7F) ∧ c.bases.Nodup ∧
    (∀ a ∈ c.pairBases, a.toNat + 1 ≤ 0x7F ∧ ∀ b ∈ c.bases, b.toNat ≠ a.toNat + 1) ∧
    (∃ k < 8, c.heaterMask.toNat = 2 ^ k) ∧ 1 ≤ c.heaterMaxIter ∧ c.heaterMaxIter ≤ 255 ∧
    0 < c.dwellS * c.tickHz ∧ 0 < 10 * c.tickHz
end

