-- ==== Sys2Proof/Laws/Config.lean ====
section
/-! SUPPORT. What a configuration that meets 00_scope R7 gives: addresses in range, bases apart, a one-hot mask, a bound from 1 to 255. -/

namespace Sys2Proof

theorem Cfg.ok_parts {c : Cfg} (h : c.ok = true) :
    c.addressesInRange = true ∧ c.basesDistinct = true ∧ c.pairsFit = true ∧ c.maskOneHot = true ∧ c.iterInRange = true ∧
      c.delaysPositive = true := by
  simpa [Cfg.ok, and_assoc] using h

/-- Every base is a register address. -/
theorem Cfg.base_lt {c : Cfg} (h : c.ok = true) {a : Byte} (ha : a ∈ c.bases) : a.toNat < 128 := by
  have := (Cfg.ok_parts h).1
  simp only [Cfg.addressesInRange, List.all_eq_true, decide_eq_true_eq] at this
  exact Nat.lt_succ_of_le (this a ha)

/-- Both cells of a pair are register addresses. -/
theorem Cfg.pair_lt {c : Cfg} (h : c.ok = true) {a : Byte} (ha : a ∈ c.pairBases) : a.toNat + 1 < 128 := by
  have := (Cfg.ok_parts h).2.2.1
  simp only [Cfg.pairsFit, List.all_eq_true, Bool.and_eq_true, decide_eq_true_eq] at this
  exact Nat.lt_succ_of_le (this a ha).1

theorem Cfg.bases_nodup {c : Cfg} (h : c.ok = true) : c.bases.Nodup := by
  simpa [Cfg.basesDistinct] using (Cfg.ok_parts h).2.1

/-- The configuration registers are not the heater register. -/
theorem Cfg.config_ne_heater {c : Cfg} (h : c.ok = true) : c.aAvconf ≠ c.aHeater ∧ c.aCtrl ≠ c.aHeater := by
  have := Cfg.bases_nodup h
  simp only [Cfg.bases, List.nodup_cons, List.mem_cons, not_or] at this
  exact ⟨this.1.2.1, this.2.1.1⟩

theorem Cfg.iter_bounds {c : Cfg} (h : c.ok = true) : 1 ≤ c.heaterMaxIter ∧ c.heaterMaxIter ≤ 255 := by
  simpa [Cfg.iterInRange] using (Cfg.ok_parts h).2.2.2.2.1

theorem Cfg.delays_pos {c : Cfg} (h : c.ok = true) : 0 < c.dwellTicks ∧ 0 < c.cycleTicks := by
  simpa [Cfg.delaysPositive] using (Cfg.ok_parts h).2.2.2.2.2

/-- The mask is one of the eight single bits. -/
theorem Cfg.mask_oneHot {c : Cfg} (h : c.ok = true) : ∃ k < 8, c.heaterMask = BitVec.ofNat 8 (2 ^ k) := by
  have := (Cfg.ok_parts h).2.2.2.1
  simpa only [Cfg.maskOneHot, List.any_eq_true, List.mem_range, decide_eq_true_eq] using this

end Sys2Proof
end

