-- ==== Sys2Proof/Laws/Frac.lean ====
section
/-! SUPPORT. The exact fractions and the rational numbers they stand for. -/

namespace Sys2Proof

@[simp] theorem Frac.toRat_ofInt (n : Int) : (Frac.ofInt n).toRat = n := by simp [Frac.toRat, Frac.ofInt]

theorem Frac.toRat_add {a b : Frac} (ha : a.den ≠ 0) (hb : b.den ≠ 0) : (a.add b).toRat = a.toRat + b.toRat := by
  have : (a.den : ℚ) ≠ 0 := by exact_mod_cast ha
  have : (b.den : ℚ) ≠ 0 := by exact_mod_cast hb
  simp only [Frac.toRat, Frac.add]; push_cast; field_simp

theorem Frac.toRat_sub {a b : Frac} (ha : a.den ≠ 0) (hb : b.den ≠ 0) : (a.sub b).toRat = a.toRat - b.toRat := by
  have : (a.den : ℚ) ≠ 0 := by exact_mod_cast ha
  have : (b.den : ℚ) ≠ 0 := by exact_mod_cast hb
  simp only [Frac.toRat, Frac.sub]; push_cast; field_simp

theorem Frac.toRat_mul (a b : Frac) : (a.mul b).toRat = a.toRat * b.toRat := by
  simp only [Frac.toRat, Frac.mul]; push_cast; rw [div_mul_div_comm]

theorem Frac.toRat_div {a b : Frac} (ha : a.den ≠ 0) (hb : b.num ≠ 0) : (a.div b).toRat = a.toRat / b.toRat := by
  have h1 : (a.den : ℚ) ≠ 0 := by exact_mod_cast ha
  have h2 : (b.num : ℚ) ≠ 0 := by exact_mod_cast hb
  have h3 : (b.num.natAbs : ℚ) ≠ 0 := by exact_mod_cast Int.natAbs_ne_zero.2 hb
  have h4 : (b.num.sign : ℚ) * (b.num : ℚ) = (b.num.natAbs : ℚ) := by
    rw [← Int.cast_mul, Int.sign_mul_self_eq_natAbs, Int.cast_natCast]
  simp only [Frac.toRat, Frac.div]; push_cast; rw [← h4]
  have h5 : (b.num.sign : ℚ) ≠ 0 := by
    intro h; rw [h, zero_mul] at h4; exact h3 h4.symm
  field_simp

/-- The exact comparison is that of the rational numbers. -/
theorem Frac.lt_iff {a b : Frac} (ha : 0 < a.den) (hb : 0 < b.den) : a.lt b = true ↔ a.toRat < b.toRat := by
  have h1 : (0 : ℚ) < a.den := by exact_mod_cast ha
  have h2 : (0 : ℚ) < b.den := by exact_mod_cast hb
  simp only [Frac.lt, Frac.toRat, decide_eq_true_eq]
  rw [div_lt_div_iff₀ h1 h2]
  exact_mod_cast Iff.rfl

end Sys2Proof
end

