-- ==== Sys2Proof/Laws/Memory.lean ====
section
/-! SUPPORT. The laws of the device's cells: read after write, and that every operation keeps the canonical form. -/

namespace Sys2Proof.Machine

open Sys2Proof

theorem Memory.read_insert (m : Memory) (a b : Nat) (v : Byte) :
    Memory.read (Memory.insert m a v) b = if a = b then some v else Memory.read m b := by
  induction m with
  | nil => simp [Memory.insert, Memory.read]
  | cons c rest ih =>
    obtain ⟨d, w⟩ := c
    simp only [Memory.insert]
    split
    · rfl
    · split
      · simp only [Memory.read]; split <;> simp_all
      · simp only [Memory.read, ih]
        split <;> split <;> simp_all

/-- A write to a register address is what the next read of that cell gives. -/
theorem Memory.read_write_same (m : Memory) (a : Nat) (v : Byte) (h : a < Memory.size) :
    Memory.read (Memory.write m a v) a = some v := by
  simp [Memory.write, h, Memory.read_insert]

/-- A write leaves every other cell alone. -/
theorem Memory.read_write_other (m : Memory) (a b : Nat) (v : Byte) (h : a ≠ b) :
    Memory.read (Memory.write m a v) b = Memory.read m b := by
  unfold Memory.write
  split <;> simp [Memory.read_insert, h]

/-- A write leaves a cell alone unless it writes that cell. -/
theorem Memory.cell_write (m : Memory) (a b : Nat) (v : Byte) (h : a < Memory.size) :
    Memory.cell (Memory.write m a v) b = if a = b then v else Memory.cell m b := by
  unfold Memory.cell
  split
  · next e => subst e; simp [Memory.read_write_same m a v h]
  · next e => rw [Memory.read_write_other m a b v e]

/-- Several writes leave every cell alone that none of them names. -/
theorem Memory.read_writeAll_other (l : List (Nat × Byte)) (m : Memory) (b : Nat) (h : ∀ p ∈ l, p.1 ≠ b) :
    Memory.read (Memory.writeAll m l) b = Memory.read m b := by
  induction l generalizing m with
  | nil => rfl
  | cons p rest ih =>
    obtain ⟨a, v⟩ := p
    simp only [Memory.writeAll]
    rw [ih _ (fun q hq => h q (List.mem_cons_of_mem _ hq)), Memory.read_write_other _ _ _ _ (h (a, v) List.mem_cons_self)]

theorem Memory.cell_writeAll_other (l : List (Nat × Byte)) (m : Memory) (b : Nat) (h : ∀ p ∈ l, p.1 ≠ b) :
    Memory.cell (Memory.writeAll m l) b = Memory.cell m b := by
  simp [Memory.cell, Memory.read_writeAll_other l m b h]

theorem Memory.wfFrom_mono {m : Memory} {lo lo' : Nat} (h : lo' ≤ lo) (hm : Memory.wfFrom lo m = true) :
    Memory.wfFrom lo' m = true := by
  cases m with
  | nil => rfl
  | cons c rest =>
    simp only [Memory.wfFrom, Bool.and_eq_true, decide_eq_true_eq] at *
    exact ⟨⟨by omega, hm.1.2⟩, hm.2⟩

theorem Memory.wfFrom_insert {m : Memory} {lo a : Nat} {v : Byte} (hlo : lo ≤ a) (ha : a < Memory.size)
    (hm : Memory.wfFrom lo m = true) : Memory.wfFrom lo (Memory.insert m a v) = true := by
  induction m generalizing lo with
  | nil => simp [Memory.insert, Memory.wfFrom, hlo, ha]
  | cons c rest ih =>
    obtain ⟨b, w⟩ := c
    simp only [Memory.wfFrom, Bool.and_eq_true, decide_eq_true_eq] at hm
    simp only [Memory.insert]
    split
    · next h => simp only [Memory.wfFrom, Bool.and_eq_true, decide_eq_true_eq]; exact ⟨⟨hlo, ha⟩, ⟨by omega, hm.1.2⟩, hm.2⟩
    · split
      · next h => subst h; simp only [Memory.wfFrom, Bool.and_eq_true, decide_eq_true_eq]; exact ⟨⟨hlo, ha⟩, hm.2⟩
      · next h1 h2 =>
        simp only [Memory.wfFrom, Bool.and_eq_true, decide_eq_true_eq]
        exact ⟨hm.1, ih (by omega) hm.2⟩

/-- A write keeps the canonical form. -/
theorem Memory.wf_write {m : Memory} (a : Nat) (v : Byte) (h : Memory.wf m = true) : Memory.wf (Memory.write m a v) = true := by
  unfold Memory.write
  split
  · next ha => exact Memory.wfFrom_insert (Nat.zero_le a) ha h
  · exact h

/-- Several writes keep the canonical form. -/
theorem Memory.wf_writeAll {m : Memory} (l : List (Nat × Byte)) (h : Memory.wf m = true) :
    Memory.wf (Memory.writeAll m l) = true := by
  induction l generalizing m with
  | nil => exact h
  | cons p rest ih => exact ih (Memory.wf_write p.1 p.2 h)

/-- The memory of the reset state is in canonical form. -/
theorem Memory.wf_reset : Memory.wf State.reset.env.dev = true := by decide

end Sys2Proof.Machine
end

