-- ==== Sys2Proof/Laws/State.lean ====
section
/-! SUPPORT. What each named update of the state does to each field: one lemma a field, all by rfl, so that no proof unfolds an update. -/

namespace Sys2Proof.Machine

open Sys2Proof

@[simp] theorem State.goto_cfg (s : State) (p : Byte) : (s.goto p).cfg = s.cfg := rfl
@[simp] theorem State.goto_ph (s : State) (p : Byte) : (s.goto p).ph = p := rfl
@[simp] theorem State.goto_cal (s : State) (p : Byte) : (s.goto p).cal = s.cal := rfl
@[simp] theorem State.goto_lat (s : State) (p : Byte) : (s.goto p).lat = s.lat := rfl
@[simp] theorem State.goto_raw (s : State) (p : Byte) : (s.goto p).raw = s.raw := rfl
@[simp] theorem State.goto_hreg (s : State) (p : Byte) : (s.goto p).hreg = s.hreg := rfl
@[simp] theorem State.goto_phy (s : State) (p : Byte) : (s.goto p).phy = s.phy := rfl
@[simp] theorem State.goto_hs (s : State) (p : Byte) : (s.goto p).hs = s.hs := rfl
@[simp] theorem State.goto_f (s : State) (p : Byte) : (s.goto p).f = s.f := rfl
@[simp] theorem State.goto_iter (s : State) (p : Byte) : (s.goto p).iter = s.iter := rfl
@[simp] theorem State.goto_tmr (s : State) (p : Byte) : (s.goto p).tmr = s.tmr := rfl
@[simp] theorem State.goto_err (s : State) (p : Byte) : (s.goto p).err = s.err := rfl
@[simp] theorem State.goto_env (s : State) (p : Byte) : (s.goto p).env = s.env := rfl
@[simp] theorem State.goto_trace (s : State) (p : Byte) : (s.goto p).trace = s.trace := rfl

@[simp] theorem State.setHs_cfg (s : State) (h : HeaterState) : (s.setHs h).cfg = s.cfg := rfl
@[simp] theorem State.setHs_ph (s : State) (h : HeaterState) : (s.setHs h).ph = s.ph := rfl
@[simp] theorem State.setHs_cal (s : State) (h : HeaterState) : (s.setHs h).cal = s.cal := rfl
@[simp] theorem State.setHs_lat (s : State) (h : HeaterState) : (s.setHs h).lat = s.lat := rfl
@[simp] theorem State.setHs_raw (s : State) (h : HeaterState) : (s.setHs h).raw = s.raw := rfl
@[simp] theorem State.setHs_hreg (s : State) (h : HeaterState) : (s.setHs h).hreg = s.hreg := rfl
@[simp] theorem State.setHs_phy (s : State) (h : HeaterState) : (s.setHs h).phy = s.phy := rfl
@[simp] theorem State.setHs_hs (s : State) (h : HeaterState) : (s.setHs h).hs = h := rfl
@[simp] theorem State.setHs_f (s : State) (h : HeaterState) : (s.setHs h).f = s.f := rfl
@[simp] theorem State.setHs_iter (s : State) (h : HeaterState) : (s.setHs h).iter = s.iter := rfl
@[simp] theorem State.setHs_tmr (s : State) (h : HeaterState) : (s.setHs h).tmr = s.tmr := rfl
@[simp] theorem State.setHs_err (s : State) (h : HeaterState) : (s.setHs h).err = s.err := rfl
@[simp] theorem State.setHs_env (s : State) (h : HeaterState) : (s.setHs h).env = s.env := rfl
@[simp] theorem State.setHs_trace (s : State) (h : HeaterState) : (s.setHs h).trace = s.trace := rfl

@[simp] theorem State.record_cfg (s : State) (e : Event) : (s.record e).cfg = s.cfg := rfl
@[simp] theorem State.record_ph (s : State) (e : Event) : (s.record e).ph = s.ph := rfl
@[simp] theorem State.record_cal (s : State) (e : Event) : (s.record e).cal = s.cal := rfl
@[simp] theorem State.record_lat (s : State) (e : Event) : (s.record e).lat = s.lat := rfl
@[simp] theorem State.record_raw (s : State) (e : Event) : (s.record e).raw = s.raw := rfl
@[simp] theorem State.record_hreg (s : State) (e : Event) : (s.record e).hreg = s.hreg := rfl
@[simp] theorem State.record_phy (s : State) (e : Event) : (s.record e).phy = s.phy := rfl
@[simp] theorem State.record_hs (s : State) (e : Event) : (s.record e).hs = s.hs := rfl
@[simp] theorem State.record_f (s : State) (e : Event) : (s.record e).f = s.f := rfl
@[simp] theorem State.record_iter (s : State) (e : Event) : (s.record e).iter = s.iter := rfl
@[simp] theorem State.record_tmr (s : State) (e : Event) : (s.record e).tmr = s.tmr := rfl
@[simp] theorem State.record_err (s : State) (e : Event) : (s.record e).err = s.err := rfl
@[simp] theorem State.record_env (s : State) (e : Event) : (s.record e).env = s.env := rfl
@[simp] theorem State.record_trace (s : State) (e : Event) : (s.record e).trace = s.trace ++ [e] := rfl

@[simp] theorem State.invalidateCal_cfg (s : State) : (s.invalidateCal).cfg = s.cfg := rfl
@[simp] theorem State.invalidateCal_ph (s : State) : (s.invalidateCal).ph = s.ph := rfl
@[simp] theorem State.invalidateCal_cal (s : State) : (s.invalidateCal).cal = {} := rfl
@[simp] theorem State.invalidateCal_lat (s : State) : (s.invalidateCal).lat = {} := rfl
@[simp] theorem State.invalidateCal_raw (s : State) : (s.invalidateCal).raw = s.raw := rfl
@[simp] theorem State.invalidateCal_hreg (s : State) : (s.invalidateCal).hreg = s.hreg := rfl
@[simp] theorem State.invalidateCal_phy (s : State) : (s.invalidateCal).phy = s.phy := rfl
@[simp] theorem State.invalidateCal_hs (s : State) : (s.invalidateCal).hs = s.hs := rfl
@[simp] theorem State.invalidateCal_f (s : State) : (s.invalidateCal).f = s.f := rfl
@[simp] theorem State.invalidateCal_iter (s : State) : (s.invalidateCal).iter = s.iter := rfl
@[simp] theorem State.invalidateCal_tmr (s : State) : (s.invalidateCal).tmr = s.tmr := rfl
@[simp] theorem State.invalidateCal_err (s : State) : (s.invalidateCal).err = s.err := rfl
@[simp] theorem State.invalidateCal_env (s : State) : (s.invalidateCal).env = s.env := rfl
@[simp] theorem State.invalidateCal_trace (s : State) : (s.invalidateCal).trace = s.trace := rfl

@[simp] theorem State.invalidateCycle_cfg (s : State) : (s.invalidateCycle).cfg = s.cfg := rfl
@[simp] theorem State.invalidateCycle_ph (s : State) : (s.invalidateCycle).ph = s.ph := rfl
@[simp] theorem State.invalidateCycle_cal (s : State) : (s.invalidateCycle).cal = s.cal := rfl
@[simp] theorem State.invalidateCycle_lat (s : State) : (s.invalidateCycle).lat = s.lat := rfl
@[simp] theorem State.invalidateCycle_raw (s : State) : (s.invalidateCycle).raw = {} := rfl
@[simp] theorem State.invalidateCycle_hreg (s : State) : (s.invalidateCycle).hreg = none := rfl
@[simp] theorem State.invalidateCycle_phy (s : State) : (s.invalidateCycle).phy = {} := rfl
@[simp] theorem State.invalidateCycle_hs (s : State) : (s.invalidateCycle).hs = s.hs := rfl
@[simp] theorem State.invalidateCycle_f (s : State) : (s.invalidateCycle).f = s.f := rfl
@[simp] theorem State.invalidateCycle_iter (s : State) : (s.invalidateCycle).iter = s.iter := rfl
@[simp] theorem State.invalidateCycle_tmr (s : State) : (s.invalidateCycle).tmr = s.tmr := rfl
@[simp] theorem State.invalidateCycle_err (s : State) : (s.invalidateCycle).err = s.err := rfl
@[simp] theorem State.invalidateCycle_env (s : State) : (s.invalidateCycle).env = s.env := rfl
@[simp] theorem State.invalidateCycle_trace (s : State) : (s.invalidateCycle).trace = s.trace := rfl

@[simp] theorem State.setConfigured_cfg (s : State) : (s.setConfigured).cfg = s.cfg := rfl
@[simp] theorem State.setConfigured_ph (s : State) : (s.setConfigured).ph = s.ph := rfl
@[simp] theorem State.setConfigured_cal (s : State) : (s.setConfigured).cal = s.cal := rfl
@[simp] theorem State.setConfigured_lat (s : State) : (s.setConfigured).lat = s.lat := rfl
@[simp] theorem State.setConfigured_raw (s : State) : (s.setConfigured).raw = s.raw := rfl
@[simp] theorem State.setConfigured_hreg (s : State) : (s.setConfigured).hreg = s.hreg := rfl
@[simp] theorem State.setConfigured_phy (s : State) : (s.setConfigured).phy = s.phy := rfl
@[simp] theorem State.setConfigured_hs (s : State) : (s.setConfigured).hs = s.hs := rfl
@[simp] theorem State.setConfigured_f (s : State) : (s.setConfigured).f = { s.f with configured := true } := rfl
@[simp] theorem State.setConfigured_iter (s : State) : (s.setConfigured).iter = s.iter := rfl
@[simp] theorem State.setConfigured_tmr (s : State) : (s.setConfigured).tmr = s.tmr := rfl
@[simp] theorem State.setConfigured_err (s : State) : (s.setConfigured).err = s.err := rfl
@[simp] theorem State.setConfigured_env (s : State) : (s.setConfigured).env = s.env := rfl
@[simp] theorem State.setConfigured_trace (s : State) : (s.setConfigured).trace = s.trace := rfl

@[simp] theorem State.setCalValid_cfg (s : State) : (s.setCalValid).cfg = s.cfg := rfl
@[simp] theorem State.setCalValid_ph (s : State) : (s.setCalValid).ph = s.ph := rfl
@[simp] theorem State.setCalValid_cal (s : State) : (s.setCalValid).cal = s.cal := rfl
@[simp] theorem State.setCalValid_lat (s : State) : (s.setCalValid).lat = s.lat := rfl
@[simp] theorem State.setCalValid_raw (s : State) : (s.setCalValid).raw = s.raw := rfl
@[simp] theorem State.setCalValid_hreg (s : State) : (s.setCalValid).hreg = s.hreg := rfl
@[simp] theorem State.setCalValid_phy (s : State) : (s.setCalValid).phy = s.phy := rfl
@[simp] theorem State.setCalValid_hs (s : State) : (s.setCalValid).hs = s.hs := rfl
@[simp] theorem State.setCalValid_f (s : State) : (s.setCalValid).f = { s.f with calValid := true } := rfl
@[simp] theorem State.setCalValid_iter (s : State) : (s.setCalValid).iter = s.iter := rfl
@[simp] theorem State.setCalValid_tmr (s : State) : (s.setCalValid).tmr = s.tmr := rfl
@[simp] theorem State.setCalValid_err (s : State) : (s.setCalValid).err = s.err := rfl
@[simp] theorem State.setCalValid_env (s : State) : (s.setCalValid).env = s.env := rfl
@[simp] theorem State.setCalValid_trace (s : State) : (s.setCalValid).trace = s.trace := rfl

@[simp] theorem State.setHalted_cfg (s : State) : (s.setHalted).cfg = s.cfg := rfl
@[simp] theorem State.setHalted_ph (s : State) : (s.setHalted).ph = s.ph := rfl
@[simp] theorem State.setHalted_cal (s : State) : (s.setHalted).cal = s.cal := rfl
@[simp] theorem State.setHalted_lat (s : State) : (s.setHalted).lat = s.lat := rfl
@[simp] theorem State.setHalted_raw (s : State) : (s.setHalted).raw = s.raw := rfl
@[simp] theorem State.setHalted_hreg (s : State) : (s.setHalted).hreg = s.hreg := rfl
@[simp] theorem State.setHalted_phy (s : State) : (s.setHalted).phy = s.phy := rfl
@[simp] theorem State.setHalted_hs (s : State) : (s.setHalted).hs = s.hs := rfl
@[simp] theorem State.setHalted_f (s : State) : (s.setHalted).f = { s.f with halted := true } := rfl
@[simp] theorem State.setHalted_iter (s : State) : (s.setHalted).iter = s.iter := rfl
@[simp] theorem State.setHalted_tmr (s : State) : (s.setHalted).tmr = s.tmr := rfl
@[simp] theorem State.setHalted_err (s : State) : (s.setHalted).err = s.err := rfl
@[simp] theorem State.setHalted_env (s : State) : (s.setHalted).env = s.env := rfl
@[simp] theorem State.setHalted_trace (s : State) : (s.setHalted).trace = s.trace := rfl

@[simp] theorem State.setHtrUnsafe_cfg (s : State) (b : Bool) : (s.setHtrUnsafe b).cfg = s.cfg := rfl
@[simp] theorem State.setHtrUnsafe_ph (s : State) (b : Bool) : (s.setHtrUnsafe b).ph = s.ph := rfl
@[simp] theorem State.setHtrUnsafe_cal (s : State) (b : Bool) : (s.setHtrUnsafe b).cal = s.cal := rfl
@[simp] theorem State.setHtrUnsafe_lat (s : State) (b : Bool) : (s.setHtrUnsafe b).lat = s.lat := rfl
@[simp] theorem State.setHtrUnsafe_raw (s : State) (b : Bool) : (s.setHtrUnsafe b).raw = s.raw := rfl
@[simp] theorem State.setHtrUnsafe_hreg (s : State) (b : Bool) : (s.setHtrUnsafe b).hreg = s.hreg := rfl
@[simp] theorem State.setHtrUnsafe_phy (s : State) (b : Bool) : (s.setHtrUnsafe b).phy = s.phy := rfl
@[simp] theorem State.setHtrUnsafe_hs (s : State) (b : Bool) : (s.setHtrUnsafe b).hs = s.hs := rfl
@[simp] theorem State.setHtrUnsafe_f (s : State) (b : Bool) : (s.setHtrUnsafe b).f = { s.f with htrUnsafe := b } := rfl
@[simp] theorem State.setHtrUnsafe_iter (s : State) (b : Bool) : (s.setHtrUnsafe b).iter = s.iter := rfl
@[simp] theorem State.setHtrUnsafe_tmr (s : State) (b : Bool) : (s.setHtrUnsafe b).tmr = s.tmr := rfl
@[simp] theorem State.setHtrUnsafe_err (s : State) (b : Bool) : (s.setHtrUnsafe b).err = s.err := rfl
@[simp] theorem State.setHtrUnsafe_env (s : State) (b : Bool) : (s.setHtrUnsafe b).env = s.env := rfl
@[simp] theorem State.setHtrUnsafe_trace (s : State) (b : Bool) : (s.setHtrUnsafe b).trace = s.trace := rfl

@[simp] theorem State.setSatUnres_cfg (s : State) (b : Bool) : (s.setSatUnres b).cfg = s.cfg := rfl
@[simp] theorem State.setSatUnres_ph (s : State) (b : Bool) : (s.setSatUnres b).ph = s.ph := rfl
@[simp] theorem State.setSatUnres_cal (s : State) (b : Bool) : (s.setSatUnres b).cal = s.cal := rfl
@[simp] theorem State.setSatUnres_lat (s : State) (b : Bool) : (s.setSatUnres b).lat = s.lat := rfl
@[simp] theorem State.setSatUnres_raw (s : State) (b : Bool) : (s.setSatUnres b).raw = s.raw := rfl
@[simp] theorem State.setSatUnres_hreg (s : State) (b : Bool) : (s.setSatUnres b).hreg = s.hreg := rfl
@[simp] theorem State.setSatUnres_phy (s : State) (b : Bool) : (s.setSatUnres b).phy = s.phy := rfl
@[simp] theorem State.setSatUnres_hs (s : State) (b : Bool) : (s.setSatUnres b).hs = s.hs := rfl
@[simp] theorem State.setSatUnres_f (s : State) (b : Bool) : (s.setSatUnres b).f = { s.f with satUnres := b } := rfl
@[simp] theorem State.setSatUnres_iter (s : State) (b : Bool) : (s.setSatUnres b).iter = s.iter := rfl
@[simp] theorem State.setSatUnres_tmr (s : State) (b : Bool) : (s.setSatUnres b).tmr = s.tmr := rfl
@[simp] theorem State.setSatUnres_err (s : State) (b : Bool) : (s.setSatUnres b).err = s.err := rfl
@[simp] theorem State.setSatUnres_env (s : State) (b : Bool) : (s.setSatUnres b).env = s.env := rfl
@[simp] theorem State.setSatUnres_trace (s : State) (b : Bool) : (s.setSatUnres b).trace = s.trace := rfl

@[simp] theorem State.takeTerm_cfg (s : State) : (s.takeTerm).cfg = s.cfg := rfl
@[simp] theorem State.takeTerm_ph (s : State) : (s.takeTerm).ph = s.ph := rfl
@[simp] theorem State.takeTerm_cal (s : State) : (s.takeTerm).cal = s.cal := rfl
@[simp] theorem State.takeTerm_lat (s : State) : (s.takeTerm).lat = s.lat := rfl
@[simp] theorem State.takeTerm_raw (s : State) : (s.takeTerm).raw = s.raw := rfl
@[simp] theorem State.takeTerm_hreg (s : State) : (s.takeTerm).hreg = s.hreg := rfl
@[simp] theorem State.takeTerm_phy (s : State) : (s.takeTerm).phy = s.phy := rfl
@[simp] theorem State.takeTerm_hs (s : State) : (s.takeTerm).hs = s.hs := rfl
@[simp] theorem State.takeTerm_f (s : State) : (s.takeTerm).f = { s.f with term := true } := rfl
@[simp] theorem State.takeTerm_iter (s : State) : (s.takeTerm).iter = s.iter := rfl
@[simp] theorem State.takeTerm_tmr (s : State) : (s.takeTerm).tmr = s.tmr := rfl
@[simp] theorem State.takeTerm_err (s : State) : (s.takeTerm).err = s.err := rfl
@[simp] theorem State.takeTerm_env (s : State) : (s.takeTerm).env = s.env := rfl
@[simp] theorem State.takeTerm_trace (s : State) : (s.takeTerm).trace = s.trace := rfl

@[simp] theorem State.takeReset_cfg (s : State) : (s.takeReset).cfg = s.cfg := rfl
@[simp] theorem State.takeReset_ph (s : State) : (s.takeReset).ph = 0x00 := rfl
@[simp] theorem State.takeReset_cal (s : State) : (s.takeReset).cal = {} := rfl
@[simp] theorem State.takeReset_lat (s : State) : (s.takeReset).lat = {} := rfl
@[simp] theorem State.takeReset_raw (s : State) : (s.takeReset).raw = {} := rfl
@[simp] theorem State.takeReset_hreg (s : State) : (s.takeReset).hreg = none := rfl
@[simp] theorem State.takeReset_phy (s : State) : (s.takeReset).phy = {} := rfl
@[simp] theorem State.takeReset_hs (s : State) : (s.takeReset).hs = .idle := rfl
@[simp] theorem State.takeReset_f (s : State) : (s.takeReset).f = {} := rfl
@[simp] theorem State.takeReset_iter (s : State) : (s.takeReset).iter = 0 := rfl
@[simp] theorem State.takeReset_tmr (s : State) : (s.takeReset).tmr = 0 := rfl
@[simp] theorem State.takeReset_err (s : State) : (s.takeReset).err = {} := rfl
@[simp] theorem State.takeReset_env (s : State) : (s.takeReset).env = s.env := rfl
@[simp] theorem State.takeReset_trace (s : State) : (s.takeReset).trace = s.trace := rfl

@[simp] theorem State.drawEvent_cfg (s : State) : (s.drawEvent).cfg = s.cfg := rfl
@[simp] theorem State.drawEvent_ph (s : State) : (s.drawEvent).ph = s.ph := rfl
@[simp] theorem State.drawEvent_cal (s : State) : (s.drawEvent).cal = s.cal := rfl
@[simp] theorem State.drawEvent_lat (s : State) : (s.drawEvent).lat = s.lat := rfl
@[simp] theorem State.drawEvent_raw (s : State) : (s.drawEvent).raw = s.raw := rfl
@[simp] theorem State.drawEvent_hreg (s : State) : (s.drawEvent).hreg = s.hreg := rfl
@[simp] theorem State.drawEvent_phy (s : State) : (s.drawEvent).phy = s.phy := rfl
@[simp] theorem State.drawEvent_hs (s : State) : (s.drawEvent).hs = s.hs := rfl
@[simp] theorem State.drawEvent_f (s : State) : (s.drawEvent).f = s.f := rfl
@[simp] theorem State.drawEvent_iter (s : State) : (s.drawEvent).iter = s.iter := rfl
@[simp] theorem State.drawEvent_tmr (s : State) : (s.drawEvent).tmr = s.tmr := rfl
@[simp] theorem State.drawEvent_err (s : State) : (s.drawEvent).err = s.err := rfl
@[simp] theorem State.drawEvent_env (s : State) : (s.drawEvent).env = { s.env with events := s.env.events.tail, draws := s.env.draws + 1 } := rfl
@[simp] theorem State.drawEvent_trace (s : State) : (s.drawEvent).trace = s.trace := rfl

@[simp] theorem State.drawBus_cfg (s : State) : (s.drawBus).cfg = s.cfg := rfl
@[simp] theorem State.drawBus_ph (s : State) : (s.drawBus).ph = s.ph := rfl
@[simp] theorem State.drawBus_cal (s : State) : (s.drawBus).cal = s.cal := rfl
@[simp] theorem State.drawBus_lat (s : State) : (s.drawBus).lat = s.lat := rfl
@[simp] theorem State.drawBus_raw (s : State) : (s.drawBus).raw = s.raw := rfl
@[simp] theorem State.drawBus_hreg (s : State) : (s.drawBus).hreg = s.hreg := rfl
@[simp] theorem State.drawBus_phy (s : State) : (s.drawBus).phy = s.phy := rfl
@[simp] theorem State.drawBus_hs (s : State) : (s.drawBus).hs = s.hs := rfl
@[simp] theorem State.drawBus_f (s : State) : (s.drawBus).f = s.f := rfl
@[simp] theorem State.drawBus_iter (s : State) : (s.drawBus).iter = s.iter := rfl
@[simp] theorem State.drawBus_tmr (s : State) : (s.drawBus).tmr = s.tmr := rfl
@[simp] theorem State.drawBus_err (s : State) : (s.drawBus).err = s.err := rfl
@[simp] theorem State.drawBus_env (s : State) : (s.drawBus).env = { s.env with bus := s.env.bus.tail, draws := s.env.draws + 1 } := rfl
@[simp] theorem State.drawBus_trace (s : State) : (s.drawBus).trace = s.trace := rfl

@[simp] theorem State.drawSink_cfg (s : State) : (s.drawSink).cfg = s.cfg := rfl
@[simp] theorem State.drawSink_ph (s : State) : (s.drawSink).ph = s.ph := rfl
@[simp] theorem State.drawSink_cal (s : State) : (s.drawSink).cal = s.cal := rfl
@[simp] theorem State.drawSink_lat (s : State) : (s.drawSink).lat = s.lat := rfl
@[simp] theorem State.drawSink_raw (s : State) : (s.drawSink).raw = s.raw := rfl
@[simp] theorem State.drawSink_hreg (s : State) : (s.drawSink).hreg = s.hreg := rfl
@[simp] theorem State.drawSink_phy (s : State) : (s.drawSink).phy = s.phy := rfl
@[simp] theorem State.drawSink_hs (s : State) : (s.drawSink).hs = s.hs := rfl
@[simp] theorem State.drawSink_f (s : State) : (s.drawSink).f = s.f := rfl
@[simp] theorem State.drawSink_iter (s : State) : (s.drawSink).iter = s.iter := rfl
@[simp] theorem State.drawSink_tmr (s : State) : (s.drawSink).tmr = s.tmr := rfl
@[simp] theorem State.drawSink_err (s : State) : (s.drawSink).err = s.err := rfl
@[simp] theorem State.drawSink_env (s : State) : (s.drawSink).env = { s.env with sinks := s.env.sinks.tail, draws := s.env.draws + 1 } := rfl
@[simp] theorem State.drawSink_trace (s : State) : (s.drawSink).trace = s.trace := rfl

@[simp] theorem State.drawWait_cfg (s : State) : (s.drawWait).cfg = s.cfg := rfl
@[simp] theorem State.drawWait_ph (s : State) : (s.drawWait).ph = s.ph := rfl
@[simp] theorem State.drawWait_cal (s : State) : (s.drawWait).cal = s.cal := rfl
@[simp] theorem State.drawWait_lat (s : State) : (s.drawWait).lat = s.lat := rfl
@[simp] theorem State.drawWait_raw (s : State) : (s.drawWait).raw = s.raw := rfl
@[simp] theorem State.drawWait_hreg (s : State) : (s.drawWait).hreg = s.hreg := rfl
@[simp] theorem State.drawWait_phy (s : State) : (s.drawWait).phy = s.phy := rfl
@[simp] theorem State.drawWait_hs (s : State) : (s.drawWait).hs = s.hs := rfl
@[simp] theorem State.drawWait_f (s : State) : (s.drawWait).f = s.f := rfl
@[simp] theorem State.drawWait_iter (s : State) : (s.drawWait).iter = s.iter := rfl
@[simp] theorem State.drawWait_tmr (s : State) : (s.drawWait).tmr = s.tmr := rfl
@[simp] theorem State.drawWait_err (s : State) : (s.drawWait).err = s.err := rfl
@[simp] theorem State.drawWait_env (s : State) : (s.drawWait).env = { s.env with waits := s.env.waits.tail, draws := s.env.draws + 1 } := rfl
@[simp] theorem State.drawWait_trace (s : State) : (s.drawWait).trace = s.trace := rfl

@[simp] theorem State.setDev_cfg (s : State) (m : Memory) : (s.setDev m).cfg = s.cfg := rfl
@[simp] theorem State.setDev_ph (s : State) (m : Memory) : (s.setDev m).ph = s.ph := rfl
@[simp] theorem State.setDev_cal (s : State) (m : Memory) : (s.setDev m).cal = s.cal := rfl
@[simp] theorem State.setDev_lat (s : State) (m : Memory) : (s.setDev m).lat = s.lat := rfl
@[simp] theorem State.setDev_raw (s : State) (m : Memory) : (s.setDev m).raw = s.raw := rfl
@[simp] theorem State.setDev_hreg (s : State) (m : Memory) : (s.setDev m).hreg = s.hreg := rfl
@[simp] theorem State.setDev_phy (s : State) (m : Memory) : (s.setDev m).phy = s.phy := rfl
@[simp] theorem State.setDev_hs (s : State) (m : Memory) : (s.setDev m).hs = s.hs := rfl
@[simp] theorem State.setDev_f (s : State) (m : Memory) : (s.setDev m).f = s.f := rfl
@[simp] theorem State.setDev_iter (s : State) (m : Memory) : (s.setDev m).iter = s.iter := rfl
@[simp] theorem State.setDev_tmr (s : State) (m : Memory) : (s.setDev m).tmr = s.tmr := rfl
@[simp] theorem State.setDev_err (s : State) (m : Memory) : (s.setDev m).err = s.err := rfl
@[simp] theorem State.setDev_env (s : State) (m : Memory) : (s.setDev m).env = { s.env with dev := m } := rfl
@[simp] theorem State.setDev_trace (s : State) (m : Memory) : (s.setDev m).trace = s.trace := rfl

@[simp] theorem State.setSink_cfg (s : State) (t : Option (List Byte)) : (s.setSink t).cfg = s.cfg := rfl
@[simp] theorem State.setSink_ph (s : State) (t : Option (List Byte)) : (s.setSink t).ph = s.ph := rfl
@[simp] theorem State.setSink_cal (s : State) (t : Option (List Byte)) : (s.setSink t).cal = s.cal := rfl
@[simp] theorem State.setSink_lat (s : State) (t : Option (List Byte)) : (s.setSink t).lat = s.lat := rfl
@[simp] theorem State.setSink_raw (s : State) (t : Option (List Byte)) : (s.setSink t).raw = s.raw := rfl
@[simp] theorem State.setSink_hreg (s : State) (t : Option (List Byte)) : (s.setSink t).hreg = s.hreg := rfl
@[simp] theorem State.setSink_phy (s : State) (t : Option (List Byte)) : (s.setSink t).phy = s.phy := rfl
@[simp] theorem State.setSink_hs (s : State) (t : Option (List Byte)) : (s.setSink t).hs = s.hs := rfl
@[simp] theorem State.setSink_f (s : State) (t : Option (List Byte)) : (s.setSink t).f = s.f := rfl
@[simp] theorem State.setSink_iter (s : State) (t : Option (List Byte)) : (s.setSink t).iter = s.iter := rfl
@[simp] theorem State.setSink_tmr (s : State) (t : Option (List Byte)) : (s.setSink t).tmr = s.tmr := rfl
@[simp] theorem State.setSink_err (s : State) (t : Option (List Byte)) : (s.setSink t).err = s.err := rfl
@[simp] theorem State.setSink_env (s : State) (t : Option (List Byte)) : (s.setSink t).env = { s.env with sink := t } := rfl
@[simp] theorem State.setSink_trace (s : State) (t : Option (List Byte)) : (s.setSink t).trace = s.trace := rfl

@[simp] theorem State.tick_cfg (s : State) : (s.tick).cfg = s.cfg := rfl
@[simp] theorem State.tick_ph (s : State) : (s.tick).ph = s.ph := rfl
@[simp] theorem State.tick_cal (s : State) : (s.tick).cal = s.cal := rfl
@[simp] theorem State.tick_lat (s : State) : (s.tick).lat = s.lat := rfl
@[simp] theorem State.tick_raw (s : State) : (s.tick).raw = s.raw := rfl
@[simp] theorem State.tick_hreg (s : State) : (s.tick).hreg = s.hreg := rfl
@[simp] theorem State.tick_phy (s : State) : (s.tick).phy = s.phy := rfl
@[simp] theorem State.tick_hs (s : State) : (s.tick).hs = s.hs := rfl
@[simp] theorem State.tick_f (s : State) : (s.tick).f = s.f := rfl
@[simp] theorem State.tick_iter (s : State) : (s.tick).iter = s.iter := rfl
@[simp] theorem State.tick_tmr (s : State) : (s.tick).tmr = s.tmr - 1 := rfl
@[simp] theorem State.tick_err (s : State) : (s.tick).err = s.err := rfl
@[simp] theorem State.tick_env (s : State) : (s.tick).env = s.env := rfl
@[simp] theorem State.tick_trace (s : State) : (s.tick).trace = s.trace := rfl

@[simp] theorem State.loadTimer_cfg (s : State) (n : Nat) : (s.loadTimer n).cfg = s.cfg := rfl
@[simp] theorem State.loadTimer_ph (s : State) (n : Nat) : (s.loadTimer n).ph = s.ph := rfl
@[simp] theorem State.loadTimer_cal (s : State) (n : Nat) : (s.loadTimer n).cal = s.cal := rfl
@[simp] theorem State.loadTimer_lat (s : State) (n : Nat) : (s.loadTimer n).lat = s.lat := rfl
@[simp] theorem State.loadTimer_raw (s : State) (n : Nat) : (s.loadTimer n).raw = s.raw := rfl
@[simp] theorem State.loadTimer_hreg (s : State) (n : Nat) : (s.loadTimer n).hreg = s.hreg := rfl
@[simp] theorem State.loadTimer_phy (s : State) (n : Nat) : (s.loadTimer n).phy = s.phy := rfl
@[simp] theorem State.loadTimer_hs (s : State) (n : Nat) : (s.loadTimer n).hs = s.hs := rfl
@[simp] theorem State.loadTimer_f (s : State) (n : Nat) : (s.loadTimer n).f = s.f := rfl
@[simp] theorem State.loadTimer_iter (s : State) (n : Nat) : (s.loadTimer n).iter = s.iter := rfl
@[simp] theorem State.loadTimer_tmr (s : State) (n : Nat) : (s.loadTimer n).tmr = n := rfl
@[simp] theorem State.loadTimer_err (s : State) (n : Nat) : (s.loadTimer n).err = s.err := rfl
@[simp] theorem State.loadTimer_env (s : State) (n : Nat) : (s.loadTimer n).env = s.env := rfl
@[simp] theorem State.loadTimer_trace (s : State) (n : Nat) : (s.loadTimer n).trace = s.trace := rfl

@[simp] theorem State.report_cfg (s : State) (e : ErrKind) (addr : Byte) (rw : Bool) : (s.report e addr rw).cfg = s.cfg := rfl
@[simp] theorem State.report_ph (s : State) (e : ErrKind) (addr : Byte) (rw : Bool) : (s.report e addr rw).ph = s.ph := rfl
@[simp] theorem State.report_cal (s : State) (e : ErrKind) (addr : Byte) (rw : Bool) : (s.report e addr rw).cal = s.cal := rfl
@[simp] theorem State.report_lat (s : State) (e : ErrKind) (addr : Byte) (rw : Bool) : (s.report e addr rw).lat = s.lat := rfl
@[simp] theorem State.report_raw (s : State) (e : ErrKind) (addr : Byte) (rw : Bool) : (s.report e addr rw).raw = s.raw := rfl
@[simp] theorem State.report_hreg (s : State) (e : ErrKind) (addr : Byte) (rw : Bool) : (s.report e addr rw).hreg = s.hreg := rfl
@[simp] theorem State.report_phy (s : State) (e : ErrKind) (addr : Byte) (rw : Bool) : (s.report e addr rw).phy = s.phy := rfl
@[simp] theorem State.report_hs (s : State) (e : ErrKind) (addr : Byte) (rw : Bool) : (s.report e addr rw).hs = s.hs := rfl
@[simp] theorem State.report_f (s : State) (e : ErrKind) (addr : Byte) (rw : Bool) : (s.report e addr rw).f = s.f := rfl
@[simp] theorem State.report_iter (s : State) (e : ErrKind) (addr : Byte) (rw : Bool) : (s.report e addr rw).iter = s.iter := rfl
@[simp] theorem State.report_tmr (s : State) (e : ErrKind) (addr : Byte) (rw : Bool) : (s.report e addr rw).tmr = s.tmr := rfl
@[simp] theorem State.report_err (s : State) (e : ErrKind) (addr : Byte) (rw : Bool) : (s.report e addr rw).err = { code := e.code, phase := s.ph, addr := addr, rw := rw } := rfl
@[simp] theorem State.report_env (s : State) (e : ErrKind) (addr : Byte) (rw : Bool) : (s.report e addr rw).env = s.env := rfl
@[simp] theorem State.report_trace (s : State) (e : ErrKind) (addr : Byte) (rw : Bool) : (s.report e addr rw).trace = s.trace ++ [.log { code := e.code, phase := s.ph, addr := addr, rw := rw }] := rfl

end Sys2Proof.Machine
end

