-- ==== Sys2Proof/Laws/Ops.lean ====
section
/-! SUPPORT. For each shared operation, one lemma that says everything it can do. The `…_ind` lemmas reduce a property of an
operation's result to the property of each of its outcomes. -/

namespace Sys2Proof.Machine

open Sys2Proof

/-! ### Points for TERM and RESET -/

@[simp] theorem State.pass_none (s : State) (k : State → State) : s.pass .none k = k s := rfl
@[simp] theorem State.pass_term (s : State) (k : State → State) : s.pass .term k = s.takeTerm := rfl
@[simp] theorem State.pass_reset (s : State) (k : State → State) : s.pass .reset k = s.takeReset := rfl

theorem State.pass_ind {P : State → Prop} {s : State} {e : Async} {k : State → State}
    (ht : e = .term → P s.takeTerm) (hr : e = .reset → P s.takeReset) (hk : e = .none → P (k s)) : P (s.pass e k) := by
  cases e with
  | none => exact hk rfl
  | term => exact ht rfl
  | reset => exact hr rfl

/-! ### Transactions -/

/-- A read's side effects and a write keep the canonical form of the cells, and touch no cell they do not name. -/
theorem wf_readCells (an : BusAnswer) {m : Memory} (h : Memory.wf m = true) : Memory.wf (readCells an m) = true :=
  Memory.wf_writeAll an.effects h

theorem read_readCells_other (an : BusAnswer) (m : Memory) (a : Nat) (h : ∀ p ∈ an.effects, p.1 ≠ a) :
    Memory.read (readCells an m) a = Memory.read m a :=
  Memory.read_writeAll_other an.effects m a h

theorem wf_writtenCells (an : BusAnswer) {m : Memory} (a : Nat) (v : Byte) (h : Memory.wf m = true) :
    Memory.wf (writtenCells an m a v) = true := by
  unfold writtenCells
  split
  · exact Memory.wf_write a v h
  · exact h

/-- The state in which a transaction's reply has come: the choice drawn, the device's cells, the item on the trace. -/
def State.carried {α : Type} (s : State) (carry : BusAnswer → Memory → α × Memory) (event : α → Event) : State :=
  let result := carry s.nextBus (Memory.writeAll s.env.dev s.nextBus.pokes)
  (s.drawBus.setDev result.2).record (event result.1)

/-- The reply of a transaction. -/
def State.replyOf {α : Type} (s : State) (carry : BusAnswer → Memory → α × Memory) : α :=
  (carry s.nextBus (Memory.writeAll s.env.dev s.nextBus.pokes)).1

theorem State.transact_eq {α : Type} (s : State) (carry : BusAnswer → Memory → α × Memory) (event : α → Event)
    (k : α → State → State) :
    s.transact carry event k =
      s.drawBus.pass s.nextBus.before fun _ => (s.carried carry event).pass s.nextBus.after (k (s.replyOf carry)) := by
  unfold State.transact
  cases h : s.nextBus.before <;> simp [State.carried, State.replyOf, h]

/-- What a transaction can do: end before the request, end after the response, or go on with the reply. -/
theorem State.transact_ind {α : Type} {P : State → Prop} {s : State} {carry : BusAnswer → Memory → α × Memory} {event : α → Event}
    {k : α → State → State}
    (hbt : s.nextBus.before = .term → P s.drawBus.takeTerm)
    (hbr : s.nextBus.before = .reset → P s.drawBus.takeReset)
    (hat : s.nextBus.before = .none → s.nextBus.after = .term → P (s.carried carry event).takeTerm)
    (har : s.nextBus.before = .none → s.nextBus.after = .reset → P (s.carried carry event).takeReset)
    (hk : s.nextBus.before = .none → s.nextBus.after = .none → P (k (s.replyOf carry) (s.carried carry event))) :
    P (s.transact carry event k) := by
  rw [State.transact_eq]
  exact State.pass_ind hbt hbr fun h => State.pass_ind (hat h) (har h) (hk h)

/-- A transaction with neither `TERM` nor `RESET` goes on with its reply. -/
theorem State.transact_quiet {α : Type} (s : State) (carry : BusAnswer → Memory → α × Memory) (event : α → Event)
    (k : α → State → State) (hb : s.nextBus.before = .none) (ha : s.nextBus.after = .none) :
    s.transact carry event k = k (s.replyOf carry) (s.carried carry event) := by
  rw [State.transact_eq, hb, ha]; rfl

/-- An op whose cells are register addresses runs. -/
theorem onCells_of_le {a : Byte} {n : Nat} {o : Out} (h : a.toNat + n ≤ 128) : onCells a n o = o := by
  simp [onCells, Memory.size, h]

/-- An op that gives a next state reached only register addresses. -/
theorem onCells_next {a : Byte} {n : Nat} {o : Out} {t : State} (h : onCells a n o = .next t) : a.toNat + n ≤ 128 ∧ o = .next t := by
  unfold onCells at h
  split at h
  · next ha => exact ⟨ha, h⟩
  · cases h

/-! ### The sink -/

/-- What a sink request can do: end before the request, end after the response, or go on with the answer. -/
theorem State.sinkRequest_ind {P : State → Prop} {s : State} {text : List Byte} {k : Bool → State → State}
    (hbt : s.nextSink.before = .term → P s.drawSink.takeTerm)
    (hbr : s.nextSink.before = .reset → P s.drawSink.takeReset)
    (hat : ∀ u, u = (s.drawSink.setSink (if s.nextSink.ok then some text else s.nextSink.left.or s.env.sink)).record (.sink text s.nextSink.ok) →
      (s.nextSink.after = .term → P u.takeTerm) ∧ (s.nextSink.after = .reset → P u.takeReset) ∧
        (s.nextSink.after = .none → P (k s.nextSink.ok u))) : P (s.sinkRequest text k) := by
  unfold State.sinkRequest
  exact State.pass_ind hbt hbr fun _ => State.pass_ind (hat _ rfl).1 (hat _ rfl).2.1 (hat _ rfl).2.2

/-! ### Waiting -/

theorem State.ticks_eq (n : Nat) (s : State) : State.ticks n s = { s with tmr := s.tmr - n } := by
  induction n generalizing s with
  | zero => rfl
  | succ n ih => rw [State.ticks, ih]; simp [State.tick, Nat.sub_sub, Nat.add_comm 1 n]

/-- A wait that nothing cuts short counts the timer down to 0 and goes on. -/
theorem State.wait_full (s : State) (k : State → State) (h : s.nextWait.what = .none) :
    s.wait k = k { s with tmr := 0, env := s.drawWait.env, trace := s.trace ++ [.wait s.tmr] } := by
  simp [State.wait, h, State.ticks_eq, State.record, State.drawWait]

/-- What a wait can do: end after some ticks, or go on with the timer at 0. -/
theorem State.wait_ind {P : State → Prop} {s : State} {k : State → State}
    (ht : ∀ n ≤ s.tmr, P ({ s.drawWait with tmr := s.tmr - n }.record (.wait n)).takeTerm)
    (hr : ∀ n ≤ s.tmr, P ({ s.drawWait with tmr := s.tmr - n }.record (.wait n)).takeReset)
    (hk : P (k ({ s.drawWait with tmr := 0 }.record (.wait s.tmr)))) : P (s.wait k) := by
  unfold State.wait
  simp only [State.ticks_eq, State.drawWait_tmr]
  cases h : s.nextWait.what with
  | none => simpa using hk
  | term => simpa using ht (min s.nextWait.tick s.tmr) (Nat.min_le_right _ _)
  | reset => simpa using hr (min s.nextWait.tick s.tmr) (Nat.min_le_right _ _)

/-! ### Raising an error -/

theorem State.raise_startup (s : State) (e : ErrKind) (addr : Byte) (rw : Bool) (h : e.cls = .startup) :
    s.raise e addr rw = (s.report e addr rw).startupEntry e := by
  simp [State.raise, State.enter, h]

theorem State.raise_cycleAbort (s : State) (e : ErrKind) (addr : Byte) (rw : Bool) (h : e.cls = .cycleAbort) :
    s.raise e addr rw = (s.report e addr rw).cycleAbortEntry := by
  simp [State.raise, State.enter, h]

theorem State.raise_reportOnly (s : State) (e : ErrKind) (addr : Byte) (rw : Bool) (h : e.cls = .reportOnly) :
    s.raise e addr rw = s.report e addr rw := by
  simp [State.raise, State.enter, h]

/-- Every `raise` writes `ERR` with the record it puts on `LOG`, last on the trace. -/
theorem State.raise_record (s : State) (e : ErrKind) (addr : Byte) (rw : Bool) :
    (s.raise e addr rw).err = { code := e.code, phase := s.ph, addr := addr, rw := rw } ∧
      (s.raise e addr rw).trace = s.trace ++ [.log (s.raise e addr rw).err] := by
  cases e <;> exact ⟨rfl, rfl⟩

/-- What no `raise` touches. -/
theorem State.raise_frame (s : State) (e : ErrKind) (addr : Byte) (rw : Bool) :
    (s.raise e addr rw).cfg = s.cfg ∧ (s.raise e addr rw).raw = s.raw ∧ (s.raise e addr rw).hreg = s.hreg ∧
      (s.raise e addr rw).phy = s.phy ∧ (s.raise e addr rw).f = s.f ∧ (s.raise e addr rw).iter = s.iter ∧
      (s.raise e addr rw).tmr = s.tmr ∧ (s.raise e addr rw).env = s.env := by
  cases e <;> exact ⟨rfl, rfl, rfl, rfl, rfl, rfl, rfl, rfl⟩

/-! ### Reading registers -/

@[simp] theorem need_some {α : Type} (r : RegName) (x : α) (k : α → Out) : need r (some x) k = k x := rfl
@[simp] theorem need_none {α : Type} (r : RegName) (k : α → Out) : need r none k = .fault (.noValue r) := rfl

/-- An op that gives a next state found its operand. -/
theorem need_next {α : Type} {r : RegName} {v : Option α} {k : α → Out} {t : State} (h : need r v k = .next t) :
    ∃ x, v = some x ∧ k x = .next t := by
  cases v with
  | none => cases h
  | some x => exact ⟨x, rfl, h⟩

end Sys2Proof.Machine
end

