-- ==== Sys2Proof/Laws/PerInstr.lean ====
section
/-! SUPPORT. One fact per op: it is well-formed, its encoding is one byte, and that byte's nibbles are those of a family 0..4 and a function
0..10 (30_encoding R67). -/

namespace Sys2Proof.Laws.CodeNibbles

open Sys2Proof

/-- What holds of the syntax of an op. -/
def Statement (i : Instr) : Prop :=
  i.wf = true ∧ encode i = [i.family ++ i.function] ∧ i.family.toNat ≤ 4 ∧ i.function.toNat ≤ 10 ∧ decodeOp i.code = some i

theorem cfgav : Statement .cfgav := by unfold Statement; decide
theorem cfgctl : Statement .cfgctl := by unfold Statement; decide
theorem ldh0 : Statement .ldh0 := by unfold Statement; decide
theorem ldh1 : Statement .ldh1 := by unfold Statement; decide
theorem ldh2 : Statement .ldh2 := by unfold Statement; decide
theorem ldh3 : Statement .ldh3 := by unfold Statement; decide
theorem ldt0l : Statement .ldt0l := by unfold Statement; decide
theorem ldt1l : Statement .ldt1l := by unfold Statement; decide
theorem ldtmsb : Statement .ldtmsb := by unfold Statement; decide
theorem unpkt : Statement .unpkt := by unfold Statement; decide
theorem ldt2 : Statement .ldt2 := by unfold Statement; decide
theorem ldt3 : Statement .ldt3 := by unfold Statement; decide
theorem chkcal : Statement .chkcal := by unfold Statement; decide
theorem rdhum : Statement .rdhum := by unfold Statement; decide
theorem cvhum : Statement .cvhum := by unfold Statement; decide
theorem clamph : Statement .clamph := by unfold Statement; decide
theorem rdtemp : Statement .rdtemp := by unfold Statement; decide
theorem cvtc : Statement .cvtc := by unfold Statement; decide
theorem cvtf : Statement .cvtf := by unfold Statement; decide
theorem satchk : Statement .satchk := by unfold Statement; decide
theorem htron : Statement .htron := by unfold Statement; decide
theorem dwell : Statement .dwell := by unfold Statement; decide
theorem htroff : Statement .htroff := by unfold Statement; decide
theorem retry : Statement .retry := by unfold Statement; decide
theorem emit : Statement .emit := by unfold Statement; decide
theorem sleep : Statement .sleep := by unfold Statement; decide
theorem halt : Statement .halt := by unfold Statement; decide

end Sys2Proof.Laws.CodeNibbles
end

