-- ==== Sys2Proof/Laws/Quiet.lean ====
section
/-! SUPPORT. What the access primitives give when neither `TERM` nor `RESET` comes around them, in the terms of Safety.lean, and when a
`TERM` or `RESET` comes before the request. -/

namespace Sys2Proof.Machine

open Sys2Proof

theorem busQuiet_iff (an : BusAnswer) : busQuiet an = true ↔ an.before = .none ∧ an.after = .none := by simp [busQuiet]

theorem sinkQuiet_iff (an : SinkAnswer) : sinkQuiet an = true ↔ an.before = .none ∧ an.after = .none := by simp [sinkQuiet]

/-- A quiet one-byte read goes on with its reply; of the state only the environment and the trace change. -/
theorem State.memRead1_quiet {s : State} {a : Byte} {r : Option Byte} (h : s.repliesByte a r) (k : Option Byte → State → State) :
    s.memRead1 a k = k r { s with env := s.afterRead, trace := s.trace ++ [.r1 s.cfg.devAddr a r] } := by
  obtain ⟨hq, hr⟩ := h
  obtain ⟨hb, ha⟩ := (busQuiet_iff _).1 hq
  subst hr
  exact State.transact_quiet _ _ _ _ hb ha

/-- A quiet two-byte read goes on with its word. -/
theorem State.memRead2_quiet {s : State} {a : Byte} {r : Option (Byte × Byte)} (h : s.repliesPair a r) (k : Option Word → State → State) :
    s.memRead2 a k =
      k (r.map fun b => pairWord b.1 b.2)
        { s with env := s.afterRead, trace := s.trace ++ [.r2 s.cfg.devAddr (s.cfg.incByte a) r] } := by
  obtain ⟨hq, hr⟩ := h
  obtain ⟨hb, ha⟩ := (busQuiet_iff _).1 hq
  subst hr
  exact State.transact_quiet _ _ _ _ hb ha

/-- A quiet write goes on with its answer. -/
theorem State.memWrite1_quiet {s : State} {ok : Bool} (h : s.repliesWrite ok) (a v : Byte) (k : Bool → State → State) :
    s.memWrite1 a v k = k ok { s with env := s.afterWrite a v, trace := s.trace ++ [.w1 s.cfg.devAddr a v ok] } := by
  obtain ⟨hq, hr⟩ := h
  obtain ⟨hb, ha⟩ := (busQuiet_iff _).1 hq
  subst hr
  exact State.transact_quiet _ _ _ _ hb ha

/-- A quiet sink request goes on with its answer. -/
theorem State.sinkRequest_quiet {s : State} (h : sinkQuiet s.nextSink = true) (text : List Byte) (k : Bool → State → State) :
    s.sinkRequest text k =
      k s.nextSink.ok { s with env := s.afterSink text, trace := s.trace ++ [.sink text s.nextSink.ok] } := by
  obtain ⟨hb, ha⟩ := (sinkQuiet_iff _).1 h
  unfold State.sinkRequest
  simp only [hb, ha, State.pass_none]
  rfl

/-- A `TERM` or `RESET` before the request ends a transaction there. -/
theorem State.transact_before {α : Type} (s : State) (carry : BusAnswer → Memory → α × Memory) (event : α → Event)
    (k : α → State → State) (h : s.nextBus.before ≠ .none) :
    s.transact carry event k = s.drawBus.pass s.nextBus.before fun s => s := by
  rw [State.transact_eq]
  cases hb : s.nextBus.before <;> simp_all

/-- Sign extension loses no bit. -/
theorem sext16_inj {a b : Word} : sext16 a = sext16 b ↔ a = b := by
  constructor
  · intro h
    apply BitVec.eq_of_toNat_eq
    have := a.isLt
    have := b.isLt
    unfold sext16 at h
    split at h <;> split at h <;> omega
  · rintro rfl; rfl

/-- 16 bits assembled from a pair, as a number. -/
theorem pairWord_toNat (b0 b1 : Byte) : (pairWord b0 b1).toNat = b0.toNat + 256 * b1.toNat := by
  simp only [pairWord, BitVec.toNat_ofNat]
  omega

end Sys2Proof.Machine
end

