-- ==== Sys2Proof/Laws/Step.lean ====
section
/-! SUPPORT. What one step can do, said once, and which op stands at which phase. -/

namespace Sys2Proof.Machine

open Sys2Proof

/-- The microprogram as a list of phases and ops (43_pollloop R141). -/
def romTable : List (Byte × Instr) :=
  [(0x00, .cfgav), (0x01, .cfgctl), (0x02, .ldh0), (0x03, .ldh1), (0x04, .ldh2), (0x05, .ldh3), (0x06, .ldt0l), (0x07, .ldt1l),
   (0x08, .ldtmsb), (0x09, .unpkt), (0x0A, .ldt2), (0x0B, .ldt3), (0x0C, .chkcal)] ++
  [(0x10, .rdhum), (0x11, .cvhum), (0x12, .satchk), (0x13, .htron), (0x14, .dwell), (0x15, .htroff), (0x16, .rdhum), (0x17, .cvhum),
   (0x18, .retry), (0x19, .clamph), (0x1A, .rdtemp), (0x1B, .cvtc), (0x1C, .cvtf), (0x1D, .emit), (0x1E, .sleep), (0x3F, .halt)]

/-- The phases and ops of `romCode` and `decodeOp` together are those of the table. -/
theorem rom_mem : ∀ ph : Byte, ∀ c ∈ romCode ph, ∀ i ∈ decodeOp c, (ph, i) ∈ romTable := by decide +kernel

/-- Every code of the microprogram names an op. -/
theorem rom_decodes : ∀ ph : Byte, ∀ c ∈ romCode ph, (decodeOp c).isSome = true := by decide +kernel

/-- The op that runs from a state is one row of the table. -/
theorem fetchOp_next {s t : State} {run : Instr → Out} (h : fetchOp s run = .next t) :
    s.hs ≠ .pattern3 ∧ ∃ i, (s.ph, i) ∈ romTable ∧ run i = .next t := by
  unfold fetchOp at h
  split at h
  · cases h
  · next hp =>
    split at h
    · cases h
    · next c hc =>
      split at h
      · cases h
      · next i hi => exact ⟨hp, i, rom_mem _ _ hc _ hi, h⟩

/-- Everything a step that gives a next state can be: `RESET`, `TERM`, or the op at the phase. -/
theorem step_cases {s t : State} (h : step s = .next t) :
    s.cfg.ok = true ∧
      ((s.nextEvent = .reset ∧ t = s.drawEvent.takeReset) ∨
        (s.nextEvent = .term ∧ s.f.term = false ∧ t = s.drawEvent.takeTerm) ∨
        (s.nextEvent = .none ∧ s.f.term = false ∧ s.hs ≠ .pattern3 ∧ ∃ i, (s.ph, i) ∈ romTable ∧ exec i s.drawEvent = .next t)) := by
  unfold step beforeOp at h
  split at h
  · next hc =>
    refine ⟨hc, ?_⟩
    split at h
    · next he => cases h; exact .inl ⟨he, rfl⟩
    · next he =>
      split at h
      · cases h
      · next ht => cases h; exact .inr (.inl ⟨he, by simpa using ht, rfl⟩)
    · next he =>
      split at h
      · cases h
      · next ht =>
        obtain ⟨hp, i, hi, hx⟩ := fetchOp_next h
        exact .inr (.inr ⟨he, by simpa using ht, hp, i, hi, hx⟩)
  · cases h

end Sys2Proof.Machine
end

