-- ==== Sys2Proof/Laws/Points.lean ====
section
/-! SUPPORT. Which of the environment's choices a step draws (Safety.lean), and what an op can do in terms of what ends it. -/

namespace Sys2Proof.Machine

open Sys2Proof

/-- A `TERM` or `RESET` after the response ends a transaction there. -/
theorem State.transact_after {α : Type} (s : State) (carry : BusAnswer → Memory → α × Memory) (event : α → Event)
    (k : α → State → State) (hb : s.nextBus.before = .none) (h : s.nextBus.after ≠ .none) :
    s.transact carry event k = (s.carried carry event).pass s.nextBus.after fun s => s := by
  rw [State.transact_eq, hb]
  cases ha : s.nextBus.after <;> simp_all

theorem heaterOps_busOps {i : Instr} (h : i ∈ heaterOps) : i ∈ busOps := by
  revert h; cases i <;> decide

theorem State.opAnswers_one (s : State) {i : Instr} (h : i ∈ busOps) (hh : i ∉ heaterOps) : s.opAnswers i = [s.nextBus] := by
  simp [State.opAnswers, h, hh]

theorem State.opPoints_one (s : State) {i : Instr} (h : i ∈ busOps) (hh : i ∉ heaterOps) :
    s.opPoints i = [s.nextBus.before, s.nextBus.after] := by
  have ha := s.opAnswers_one h hh
  cases i <;> simp_all [State.opPoints, busOps]

theorem State.opAnswers_heater (s : State) {i : Instr} (h : i ∈ heaterOps) :
    s.opAnswers i = if busQuiet s.nextBus && (replyByte s.nextBus s.cells s.cfg.aHeater.toNat).isSome then
      [s.nextBus, s.secondBus] else [s.nextBus] := by
  simp [State.opAnswers, h, heaterOps_busOps h]

/-- Every op of the table stands at its phase. -/
theorem rom_op : ∀ p ∈ romTable, (romCode p.1).bind decodeOp = some p.2 := by decide +kernel

/-- Everything a step that gives a next state can be, with what ends it and the bus answers it draws. -/
theorem step_points {s t : State} (h : step s = .next t) :
    (s.interrupt = .reset ∧ t = s.drawEvent.takeReset) ∨
    (s.interrupt = .term ∧ s.f.term = false ∧ t = s.drawEvent.takeTerm) ∨
    (s.f.term = false ∧ ∃ i, (s.ph, i) ∈ romTable ∧ exec i s.drawEvent = .next t ∧
      s.interrupt = s.drawEvent.opInterrupt i ∧ s.stepAnswers = s.drawEvent.opAnswers i) := by
  obtain ⟨_, ⟨he, rfl⟩ | ⟨he, ht, rfl⟩ | ⟨he, ht, _, i, hi, hx⟩⟩ := step_cases h
  · exact .inl ⟨by simp [State.interrupt, he], rfl⟩
  · exact .inr (.inl ⟨by simp [State.interrupt, he], ht, rfl⟩)
  · have hop : s.opHere = some i := rom_op _ hi
    exact .inr (.inr ⟨ht, i, hi, hx, by simp [State.interrupt, he, hop], by simp [State.stepAnswers, he, hop]⟩)

/-- What the one transaction of an op can do, in terms of what ends the op. -/
theorem State.transact_points {α : Type} {P : State → Prop} {s : State} {i : Instr} {carry : BusAnswer → Memory → α × Memory}
    {event : α → Event} {k : α → State → State} (hi : i ∈ busOps) (hh : i ∉ heaterOps)
    (ht : s.opInterrupt i = .term → P s.drawBus.takeTerm ∧ P (s.carried carry event).takeTerm)
    (hr : s.opInterrupt i = .reset → P s.drawBus.takeReset ∧ P (s.carried carry event).takeReset)
    (hk : s.opInterrupt i = .none → P (k (s.replyOf carry) (s.carried carry event))) : P (s.transact carry event k) := by
  simp only [State.opInterrupt, s.opPoints_one hi hh] at ht hr hk
  apply State.transact_ind
  · intro hb; exact (ht (by simp [hb])).1
  · intro hb; exact (hr (by simp [hb])).1
  · intro hb ha; exact (ht (by simp [hb, ha])).2
  · intro hb ha; exact (hr (by simp [hb, ha])).2
  · intro hb ha; exact hk (by simp [hb, ha])

end Sys2Proof.Machine
end

