-- ==== Sys2Proof/Tests/Slice0.lean ====
section
/-! SUPPORT. Tests, with results taken from spec/95_test_vectors.md or worked out from the rules, and one witness for the hypotheses of each
statement of Certificates/Slice0/Obligations.lean. -/

namespace Sys2Proof.Tests

open Sys2Proof Sys2Proof.Machine

/-! ### Helpers -/

/-- The device cells of the reference calibration (95, header), the heater register at 0x00. -/
def cells : Memory :=
  [(0x21, 0x00), (0x30, 0x78), (0x31, 0xA0), (0x32, 0xA7), (0x33, 0x11), (0x35, 0x00), (0x36, 0xB8), (0x37, 0x0B), (0x3A, 0x30),
   (0x3B, 0x75), (0x3C, 0x00), (0x3D, 0xFF), (0x3E, 0xE2), (0x3F, 0x02)]

/-- A block at a phase, before the scripted bus answers, with nothing asynchronous. -/
def at_ (ph : Byte) (bus : List BusAnswer) : State :=
  { State.reset with ph := ph, env := { dev := cells, events := [.none], bus := bus, sinks := [{}], waits := [{}] } }

/-- A read answered `Ok` with these bytes. -/
def got (l : List Byte) : BusAnswer := { bytes := some l }

/-- The answer `Err`. -/
def err : BusAnswer := { ok := false, took := false }

/-- The reference calibration, loaded: 60, 80, 3000, 30000, 167, 17, -256, 738. -/
def refCal : CalFile :=
  { h0 := some 60, h1 := some 80, h2 := some 3000, h3 := some 30000, t0 := some 167, t1 := some 17, t2 := some 0xFF00, t3 := some 738 }

/-- A calibrated block at a phase. -/
def cal (ph : Byte) (bus : List BusAnswer) : State :=
  { at_ ph bus with cal := refCal, f := { configured := true, calValid := true } }

/-- The binary32 value of a word. -/
def f32 (w : BitVec 32) : F32 := (F32.ofBits w).getD F32.zero

/-- A calibrated block at a phase, with an unclamped humidity, a heater state and an iteration count. -/
def hum (ph : Byte) (u : BitVec 32) (hs : HeaterState) (iter : Byte) (bus : List BusAnswer) : State :=
  { cal ph bus with phy := { humU := some (f32 u) }, hs := hs, iter := iter }

/-- A calibrated block at `EMIT` with the readings of program P1. -/
def readings (sinks : List SinkAnswer) : State :=
  { cal 0x1D [] with
    phy := { humU := some (f32 0x428C0000), humR := some (f32 0x428C0000), tempC := some (f32 0x41341393), tempF := some (f32 0x425108CF) }
    env := { (cal 0x1D []).env with sinks := sinks } }

/-- The outcome is a next state with this property. -/
def gives (o : Out) (p : State → Bool) : Bool :=
  match o with
  | .next t => p t
  | _ => false

/-- The outcome is this fault. -/
def faults (o : Out) (f : Fault) : Bool :=
  match o with
  | .fault g => decide (g = f)
  | _ => false

/-- The outcome is this refusal. -/
def refuses (o : Out) (r : Refusal) : Bool :=
  match o with
  | .refused q => decide (q = r)
  | _ => false

/-! ### Well-formedness: each check of 00 R7 refuses an ill-formed configuration -/

/-- The defaults of R6 meet R7. -/
theorem test_default_cfg_ok : ({} : Cfg).ok = true := by decide
/-- An address of 0x80 is none (R7). -/
theorem test_wf_address : ({ aHeater := 0x80 } : Cfg).addressesInRange = false ∧ ({ aHeater := 0x80 } : Cfg).ok = false := by decide
/-- Two registers at one address (R7). -/
theorem test_wf_distinct : ({ aH1 := 0x30 } : Cfg).basesDistinct = false ∧ ({ aH1 := 0x30 } : Cfg).ok = false := by decide
/-- A pair whose high byte is another base: 0x1F and 0x20 (R7). -/
theorem test_wf_pair : ({ aHum := 0x1F } : Cfg).pairsFit = false ∧ ({ aHum := 0x1F } : Cfg).ok = false := by decide
/-- A pair whose high byte is outside the space: 0x7F and 0x80 (R7). -/
theorem test_wf_pair_top : ({ aTemp := 0x7F } : Cfg).pairsFit = false ∧ ({ aTemp := 0x7E } : Cfg).pairsFit = true := by decide
/-- A mask of two bits, and of none (R7). -/
theorem test_wf_mask : ({ heaterMask := 0x06 } : Cfg).maskOneHot = false ∧ ({ heaterMask := 0x00 } : Cfg).ok = false := by decide
/-- An iteration bound of 0 and of 256 (R7). -/
theorem test_wf_iter : ({ heaterMaxIter := 0 } : Cfg).iterInRange = false ∧ ({ heaterMaxIter := 256 } : Cfg).ok = false := by decide
/-- A dwell of no ticks (R7). -/
theorem test_wf_delay : ({ dwellS := 0 } : Cfg).delaysPositive = false ∧ ({ tickHz := 0 } : Cfg).ok = false := by decide
/-- A step refuses a configuration that breaks R7 (60 R181 f). -/
theorem test_step_refuses_bad_cfg : refuses (step { at_ 0x00 [{}] with cfg := { heaterMask := 0x06 } }) .badConfig = true := by decide

/-! ### Decoding: codes written out from 30 R67, family nibble then function nibble -/

theorem test_decode_family0 : decode [0b00000000#8] = .ok (.cfgav, []) ∧ decode [0b00000001#8] = .ok (.cfgctl, []) := ⟨rfl, rfl⟩
theorem test_decode_family1_low :
    decode [0b00010000#8] = .ok (.ldh0, []) ∧ decode [0b00010001#8] = .ok (.ldh1, []) ∧ decode [0b00010010#8] = .ok (.ldh2, []) ∧
      decode [0b00010011#8] = .ok (.ldh3, []) ∧ decode [0b00010100#8] = .ok (.ldt0l, []) ∧ decode [0b00010101#8] = .ok (.ldt1l, []) :=
  ⟨rfl, rfl, rfl, rfl, rfl, rfl⟩
theorem test_decode_family1_high :
    decode [0b00010110#8] = .ok (.ldtmsb, []) ∧ decode [0b00010111#8] = .ok (.unpkt, []) ∧ decode [0b00011000#8] = .ok (.ldt2, []) ∧
      decode [0b00011001#8] = .ok (.ldt3, []) ∧ decode [0b00011010#8] = .ok (.chkcal, []) := ⟨rfl, rfl, rfl, rfl, rfl⟩
theorem test_decode_family2 :
    decode [0b00100000#8] = .ok (.rdhum, []) ∧ decode [0b00100001#8] = .ok (.cvhum, []) ∧ decode [0b00100010#8] = .ok (.clamph, []) ∧
      decode [0b00100011#8] = .ok (.rdtemp, []) ∧ decode [0b00100100#8] = .ok (.cvtc, []) ∧ decode [0b00100101#8] = .ok (.cvtf, []) :=
  ⟨rfl, rfl, rfl, rfl, rfl, rfl⟩
theorem test_decode_family3 :
    decode [0b00110000#8] = .ok (.satchk, []) ∧ decode [0b00110001#8] = .ok (.htron, []) ∧ decode [0b00110010#8] = .ok (.dwell, []) ∧
      decode [0b00110011#8] = .ok (.htroff, []) ∧ decode [0b00110100#8] = .ok (.retry, []) := ⟨rfl, rfl, rfl, rfl, rfl⟩
theorem test_decode_family4 :
    decode [0b01000000#8] = .ok (.emit, []) ∧ decode [0b01000001#8] = .ok (.sleep, []) ∧ decode [0b01000010#8] = .ok (.halt, []) :=
  ⟨rfl, rfl, rfl⟩
/-- Neighbours of the last code of each family name no op (R69). -/
theorem test_decode_refuses :
    decode [0x02] = .error (.noSuchCode 0x02) ∧ decode [0x1B] = .error (.noSuchCode 0x1B) ∧ decode [0x26] = .error (.noSuchCode 0x26) ∧
      decode [0x35] = .error (.noSuchCode 0x35) ∧ decode [0x43] = .error (.noSuchCode 0x43) ∧ decode [] = .error .noByte :=
  ⟨rfl, rfl, rfl, rfl, rfl, rfl⟩
/-- Program P0 (95): the boot's op codes decode to the boot's ops. -/
theorem test_decode_boot :
    decodeAll [0x00, 0x01, 0x10, 0x11, 0x12, 0x13, 0x14, 0x15, 0x16, 0x17, 0x18, 0x19, 0x1A] =
      some [.cfgav, .cfgctl, .ldh0, .ldh1, .ldh2, .ldh3, .ldt0l, .ldt1l, .ldtmsb, .unpkt, .ldt2, .ldt3, .chkcal] := rfl
/-- The host's entry points: the row of `HTROFF`, and a code that is none. -/
theorem test_table_word : decodeTableWord 8 0x33 = some .htroff ∧ decodeTableWord 8 0x05 = none ∧
    (State.reset.withFetchWord 8 0x33).ph = 0x15 := by decide

/-! ### The ops -/

/-- 40 R81, 95 V11: `W1 10 <- 1B`; a failed write logs (10, 00, 10, 1). -/
theorem test_cfgav_ok : gives (exec .cfgav (at_ 0x00 [{}])) (fun t => decide (t.ph = 0x01) && decide (t.trace = [.w1 0x5F 0x10 0x1B true]) &&
    decide (Memory.read t.env.dev 0x10 = some 0x1B)) = true := by decide
theorem test_cfgav_err : gives (exec .cfgav (at_ 0x00 [err])) (fun t => decide (t.ph = 0x3F) && decide (t.err = ⟨0x10, 0x00, 0x10, true⟩)) = true := by
  decide
/-- 40 R82: `W1 20 <- 81`; 95 V11: (10, 01, 20, 1). -/
theorem test_cfgctl_ok : gives (exec .cfgctl (at_ 0x01 [{}])) (fun t => decide (t.ph = 0x02) && t.f.configured &&
    decide (t.trace = [.w1 0x5F 0x20 0x81 true])) = true := by decide
theorem test_cfgctl_err : gives (exec .cfgctl (at_ 0x01 [err])) (fun t => !t.f.configured && decide (t.err = ⟨0x10, 0x01, 0x20, true⟩)) = true := by
  decide
/-- 40 R84: `R1 30 -> 78` gives 60; an odd byte 0x79 gives 60 too. -/
theorem test_ldh0 : gives (exec .ldh0 (at_ 0x02 [{}])) (fun t => decide (t.cal.h0 = some 60) && decide (t.ph = 0x03)) = true := by decide
theorem test_ldh0_odd : gives (exec .ldh0 (at_ 0x02 [got [0x79]])) (fun t => decide (t.cal.h0 = some 60)) = true := by decide
/-- 40 R85: `R1 31 -> A0` gives 80; 0xFF gives 127 (95 V2). -/
theorem test_ldh1 : gives (exec .ldh1 (at_ 0x03 [{}])) (fun t => decide (t.cal.h1 = some 80) && decide (t.ph = 0x04)) = true := by decide
theorem test_ldh1_max : gives (exec .ldh1 (at_ 0x03 [got [0xFF]])) (fun t => decide (t.cal.h1 = some 127)) = true := by decide
/-- 40 R86: `R2 B6 -> B8 0B` gives 3000; program P7 of 95: a failed read logs (20, 04, B6, 0) and leaves no calibration. -/
theorem test_ldh2 : gives (exec .ldh2 (at_ 0x04 [{}])) (fun t => decide (t.cal.h2 = some 3000) &&
    decide (t.trace = [.r2 0x5F 0xB6 (some (0xB8, 0x0B))])) = true := by decide
theorem test_ldh2_err : gives (exec .ldh2 { at_ 0x04 [err] with cal := { h0 := some 60, h1 := some 80 } }) (fun t =>
    decide (t.cal = {}) && decide (t.ph = 0x3F) && decide (t.err = ⟨0x20, 0x04, 0xB6, false⟩)) = true := by decide
/-- 40 R87: `R2 BA -> 30 75` gives 30000; a reply of one byte is an `Err` (20 R42). -/
theorem test_ldh3 : gives (exec .ldh3 (at_ 0x05 [{}])) (fun t => decide (t.cal.h3 = some 30000) && decide (t.ph = 0x06)) = true := by decide
theorem test_ldh3_short : gives (exec .ldh3 (at_ 0x05 [got [0x30]])) (fun t => decide (t.err = ⟨0x20, 0x05, 0xBA, false⟩)) = true := by decide
/-- 40 R88, R89, R90: the latches keep the byte; 95 V11: (20, 08, 35, 0). -/
theorem test_ldt0l : gives (exec .ldt0l (at_ 0x06 [{}])) (fun t => decide (t.lat.t0l = some 0xA7) && decide (t.ph = 0x07)) = true := by decide
theorem test_ldt1l : gives (exec .ldt1l (at_ 0x07 [{}])) (fun t => decide (t.lat.t1l = some 0x11) && decide (t.ph = 0x08)) = true := by decide
theorem test_ldtmsb : gives (exec .ldtmsb (at_ 0x08 [got [0xF3]])) (fun t => decide (t.lat.tmsb = some 0xF3) && decide (t.ph = 0x09)) = true := by
  decide
theorem test_ldtmsb_err : gives (exec .ldtmsb (at_ 0x08 [err])) (fun t => decide (t.err = ⟨0x20, 0x08, 0x35, false⟩)) = true := by decide
/-- 95 V3: the source's bytes give 167 and 17; A9, 10, 20 give 272 and 544. -/
theorem test_unpkt : gives (exec .unpkt { at_ 0x09 [] with lat := ⟨some 0xA7, some 0x11, some 0x00⟩ }) (fun t =>
    decide (t.cal.t0 = some 167) && decide (t.cal.t1 = some 17) && decide (t.ph = 0x0A)) = true := by decide
theorem test_unpkt_high : gives (exec .unpkt { at_ 0x09 [] with lat := ⟨some 0x10, some 0x20, some 0xA9⟩ }) (fun t =>
    decide (t.cal.t0 = some 272) && decide (t.cal.t1 = some 544)) = true := by decide
/-- 40 R92: `R2 BC -> 00 FF` gives -256. 40 R93: `R2 BE -> E2 02` gives 738. -/
theorem test_ldt2 : gives (exec .ldt2 (at_ 0x0A [{}])) (fun t => decide (t.cal.t2.map sext16 = some (-256)) && decide (t.ph = 0x0B)) = true := by
  decide
theorem test_ldt3 : gives (exec .ldt3 (at_ 0x0B [{}])) (fun t => decide (t.cal.t3.map sext16 = some 738) && decide (t.ph = 0x0C)) = true := by
  decide
/-- 95 V4: the reference calibration is valid; `t3 = t2` = 738 is not. -/
theorem test_chkcal : gives (exec .chkcal { at_ 0x0C [] with cal := refCal }) (fun t => t.f.calValid && decide (t.ph = 0x10)) = true := by decide
theorem test_chkcal_err : gives (exec .chkcal { at_ 0x0C [] with cal := { refCal with t2 := some 738 } }) (fun t =>
    !t.f.calValid && decide (t.cal = {}) && decide (t.trace = [.log ⟨0x21, 0x0C, 0xFF, false⟩])) = true := by decide
/-- 41 R110: `R2 A8 -> 74 40` gives 16500; 95 V11, P10: at 0x16 an `Err` logs (30, 16, A8, 0) and ends in `Idle`. -/
theorem test_rdhum : gives (exec .rdhum (cal 0x10 [got [0x74, 0x40]])) (fun t => decide (t.raw.hum = some 16500) && decide (t.ph = 0x11)) = true := by
  decide
theorem test_rdhum_err : gives (exec .rdhum { cal 0x16 [err] with hs := .cooldown }) (fun t => decide (t.hs = .idle) && decide (t.ph = 0x1E) &&
    decide (t.err = ⟨0x30, 0x16, 0xA8, false⟩)) = true := by decide
/-- 95 V5: 16500 gives 70.0; the pair `55 F5` is unsigned and gives 104.3. -/
theorem test_cvhum : gives (exec .cvhum { cal 0x11 [] with raw := { hum := some 16500 } }) (fun t =>
    decide (t.phy.humU.map F32.bits = some 0x428C0000) && decide (t.ph = 0x12)) = true := by decide
theorem test_cvhum_unsigned : gives (exec .cvhum { cal 0x17 [] with raw := { hum := some 62805 } }) (fun t =>
    decide (t.phy.humU.map F32.bits = some 0x42D0999A) && decide (t.ph = 0x18)) = true := by decide
/-- 95 V6: 104.3 is limited to 100, -10 to 0. -/
theorem test_clamph_high : gives (exec .clamph (hum 0x19 0x42D0999A .idle 0 [])) (fun t => decide (t.phy.humR.map F32.bits = some 0x42C80000) &&
    decide (t.phy.humU.map F32.bits = some 0x42D0999A) && decide (t.ph = 0x1A)) = true := by decide
theorem test_clamph_low : gives (exec .clamph (hum 0x19 0xC1200000 .idle 0 [])) (fun t => decide (t.phy.humR.map F32.bits = some 0x00000000)) = true := by
  decide
/-- 41 R113: `R2 AA -> FE 00` gives 0x00FE; 95 P3: an `Err` logs (30, 1A, AA, 0). -/
theorem test_rdtemp : gives (exec .rdtemp (cal 0x1A [got [0xFE, 0x00]])) (fun t => decide (t.raw.temp = some 0x00FE) && decide (t.ph = 0x1B)) = true := by
  decide
theorem test_rdtemp_err : gives (exec .rdtemp (cal 0x1A [err])) (fun t => decide (t.err = ⟨0x30, 0x1A, 0xAA, false⟩) && decide (t.ph = 0x1E)) = true := by
  decide
/-- 95 V7: sample 254 gives 0x41341393; the pattern 0x8000 is -32768 and gives 0x441E89E6. -/
theorem test_cvtc : gives (exec .cvtc { cal 0x1B [] with raw := { temp := some 0x00FE } }) (fun t =>
    decide (t.phy.tempC.map F32.bits = some 0x41341393) && decide (t.ph = 0x1C)) = true := by decide
theorem test_cvtc_negative : gives (exec .cvtc { cal 0x1B [] with raw := { temp := some 0x8000 } }) (fun t =>
    decide (t.phy.tempC.map F32.bits = some 0x441E89E6)) = true := by decide
/-- 95 V7: 0x41341393 gives 0x425108CF; -40 gives -40. -/
theorem test_cvtf : gives (exec .cvtf { cal 0x1C [] with phy := { tempC := some (f32 0x41341393) } }) (fun t =>
    decide (t.phy.tempF.map F32.bits = some 0x425108CF) && decide (t.ph = 0x1D)) = true := by decide
theorem test_cvtf_negative : gives (exec .cvtf { cal 0x1C [] with phy := { tempC := some (f32 0xC2200000) } }) (fun t =>
    decide (t.phy.tempF.map F32.bits = some 0xC2200000)) = true := by decide
/-- 95 V9: exactly 95.0 does not intervene; 95.00074 does. -/
theorem test_satchk_strict : gives (exec .satchk (hum 0x12 0x42BE0000 .idle 2 [])) (fun t => decide (t.ph = 0x19) && decide (t.iter = 0)) = true := by
  decide
theorem test_satchk_over : gives (exec .satchk (hum 0x12 0x42BE0061 .idle 2 [])) (fun t => decide (t.ph = 0x13) && decide (t.iter = 0)) = true := by
  decide
/-- 95 V9: `R1 21 -> 85`, `W1 21 <- 87`; a failed read makes no write. -/
theorem test_htron : gives (exec .htron (hum 0x13 0x42C00000 .cooldown 1 [got [0x85], {}])) (fun t => decide (t.hs = .heating) &&
    decide (t.iter = 2) && decide (t.hreg = some 0x85) && decide (t.ph = 0x14) &&
    decide (t.trace = [.r1 0x5F 0x21 (some 0x85), .w1 0x5F 0x21 0x87 true])) = true := by decide
theorem test_htron_err : gives (exec .htron (hum 0x13 0x42C00000 .idle 0 [err, {}])) (fun t => decide (t.hs = .heating) && decide (t.ph = 0x14) &&
    decide (t.trace = [.r1 0x5F 0x21 none, .log ⟨0x40, 0x13, 0x21, false⟩])) = true := by decide
/-- 95 V9: `wait 30`; V12: `TERM` after 12 ticks leaves `PH` = 0x14 and 18 ticks. -/
theorem test_dwell : gives (exec .dwell (hum 0x14 0x42C00000 .heating 1 [])) (fun t => decide (t.ph = 0x15) && decide (t.tmr = 0) &&
    decide (t.trace = [.wait 30])) = true := by decide
theorem test_dwell_term : gives (exec .dwell { hum 0x14 0x42C00000 .heating 1 [] with env := { waits := [⟨.term, 12⟩] } }) (fun t =>
    t.f.term && decide (t.ph = 0x14) && decide (t.tmr = 18) && decide (t.hs = .heating)) = true := by decide
/-- 95 V9: `R1 21 -> 87`, `W1 21 <- 85`; a failed write logs (41, 15, 21, 1). -/
theorem test_htroff : gives (exec .htroff (hum 0x15 0x42C00000 .heating 1 [got [0x87], {}])) (fun t => decide (t.hs = .cooldown) &&
    decide (t.ph = 0x16) && decide (t.trace = [.r1 0x5F 0x21 (some 0x87), .w1 0x5F 0x21 0x85 true])) = true := by decide
theorem test_htroff_err : gives (exec .htroff (hum 0x15 0x42C00000 .heating 1 [got [0x02], err])) (fun t => decide (t.hs = .idle) &&
    t.f.htrUnsafe && decide (t.ph = 0x1E) && decide (t.err = ⟨0x41, 0x15, 0x21, true⟩)) = true := by decide
/-- 95 V9: 97 with iteration 1 of 3 loops; with iteration 3 it gives up. -/
theorem test_retry_loops : gives (exec .retry (hum 0x18 0x42C20000 .cooldown 1 [])) (fun t => decide (t.ph = 0x13) && decide (t.hs = .cooldown)) = true := by
  decide
theorem test_retry_gives_up : gives (exec .retry (hum 0x18 0x42C20000 .cooldown 3 [])) (fun t => decide (t.ph = 0x19) && decide (t.hs = .idle) &&
    t.f.satUnres && decide (t.trace = [.log ⟨0x42, 0x18, 0xFF, false⟩])) = true := by decide
/-- 95 V8: the 19 bytes of `70.00%\n11.25\n52.26\n`; V10: an `Err` logs (50, 1D, FF, 1). -/
theorem test_emit : gives (exec .emit (readings [{}])) (fun t => decide (t.ph = 0x1E) && decide (t.env.sink = some
    [0x37, 0x30, 0x2E, 0x30, 0x30, 0x25, 0x0A, 0x31, 0x31, 0x2E, 0x32, 0x35, 0x0A, 0x35, 0x32, 0x2E, 0x32, 0x36, 0x0A])) = true := by decide
theorem test_emit_err : gives (exec .emit (readings [{ ok := false }])) (fun t => decide (t.ph = 0x1E) &&
    decide (t.err = ⟨0x50, 0x1D, 0xFF, true⟩) && decide (t.env.sink = none)) = true := by decide
/-- 95 V10: `wait 10`, the ephemeral registers without value. -/
theorem test_sleep : gives (exec .sleep (readings [{}])) (fun t => decide (t.ph = 0x10) && decide (t.phy = {}) && decide (t.trace = [.wait 10]) &&
    decide (t.cal = refCal)) = true := by decide
/-- 95 V10: `HALT`. -/
theorem test_halt : gives (exec .halt (at_ 0x3F [])) (fun t => t.f.halted && decide (t.ph = 0x3F) && decide (t.trace = [])) = true := by decide

/-! ### Numbers -/

/-- 95 V1. -/
theorem test_sext16 : sext16 (pairWord 0xFF 0x7F) = 32767 ∧ sext16 (pairWord 0x00 0x80) = -32768 ∧ sext16 (pairWord 0x18 0xFC) = -1000 := by decide
/-- 95 V8: the tie 0.125 gives `0.12`; a small negative value gives `0.00`. -/
theorem test_fmt2 : fmt2 (f32 0x3E000000) = [0x30, 0x2E, 0x31, 0x32] ∧ fmt2 (f32 0xB5CCCCCD) = [0x30, 0x2E, 0x30, 0x30] := by decide
/-- 41 R108, 93 U3: rounding every operation gives 127.87500762939453 (0x42FFC001) for anchors 0 and 1023, where one rounding gives 127.875. -/
theorem test_numerics : (NumKind.perOperation.tc 16401 0 1023 0 16401).bits = 0x42FFC001 ∧
    (NumKind.oneRounding.tc 16401 0 1023 0 16401).bits = 0x42FFC000 := by decide
/-- 30 R72: the 25 bits of a record. -/
theorem test_record_pack : (ErrRec.mk 0x41 0x15 0x21 true).pack = 0b0100000100010101001000011#25 := by decide

/-! ### Steps: the sequencer, TERM, RESET, model faults -/

/-- 43 R142: from reset, with nothing asynchronous, the first step runs `CFGAV`. -/
theorem test_first_step : gives (step (at_ 0x00 [{}])) (fun t => decide (t.ph = 0x01) && decide (t.env.draws = 2)) = true := by decide
/-- 60 R170: `TERM` between steps, and no step after it (R142). -/
theorem test_term : gives (step { at_ 0x02 [] with env := { events := [.term] } }) (fun t => t.f.term && decide (t.ph = 0x02)) = true ∧
    faults (step { at_ 0x02 [{}] with f := { term := true } }) .terminated = true := by decide
/-- 70 R190: `RESET` out of the terminated state. -/
theorem test_reset_after_term : gives (step { at_ 0x14 [] with hs := .heating, f := { term := true }, env := { events := [.reset], dev := cells } })
    (fun t => decide (t.ph = 0x00) && decide (t.hs = .idle) && !t.f.term && decide (t.env.dev = cells)) = true := by decide
/-- 60 R181 (a), (b), (e). -/
theorem test_model_faults : faults (exec .cvhum (cal 0x11 [])) (.noValue .rawHum) = true ∧ faults (step (at_ 0x0D [])) (.badPhase 0x0D) = true ∧
    faults (step { at_ 0x02 [{}] with hs := .pattern3 }) .badHeaterState = true := by decide

/-! ### Witnesses: states and operands that meet the hypotheses of each statement -/

/-- For each clause of ResetRestoresBlock. -/
theorem test_wit_ResetRestoresBlock :
    (at_ 0x00 []).cfg.ok = true ∧
    ({ at_ 0x14 [] with env := { events := [.reset] } } : State).nextEvent = .reset ∧
    (at_ 0x00 [{ before := .reset }]).nextBus.before = .reset ∧
    ((at_ 0x00 [{ after := .reset }]).nextBus.before = .none ∧ (at_ 0x00 [{ after := .reset }]).nextBus.after = .reset) ∧
    (hum 0x13 0x42C20000 .idle 0 [got [0x85], { before := .reset }]).repliesByte 0x21 (some 0x85) ∧
    (hum 0x13 0x42C20000 .idle 0 [got [0x85], { before := .reset }]).secondBus.before = .reset ∧
    ((hum 0x15 0x42C20000 .heating 0 [got [0x85], { after := .reset }]).secondBus.before = .none ∧
      (hum 0x15 0x42C20000 .heating 0 [got [0x85], { after := .reset }]).secondBus.after = .reset) ∧
    ((readings [{ before := .reset }]).nextSink.before = .reset ∧ (readings []).phy.humR.isSome = true ∧ (readings []).phy.tempC.isSome = true ∧
      (readings []).phy.tempF.isSome = true) ∧
    ((readings [{ after := .reset }]).nextSink.before = .none ∧ (readings [{ after := .reset }]).nextSink.after = .reset) ∧
    ({ at_ 0x14 [] with env := { waits := [⟨.reset, 0⟩] } } : State).nextWait.what = .reset := by
  refine ⟨?_, ?_, ?_, ?_, ?_, ?_, ?_, ?_, ?_, ?_⟩
  · decide
  · decide
  · decide
  · decide
  · exact ⟨by decide, by decide⟩
  · decide
  · decide
  · decide
  · decide
  · decide

/-- Both answers. -/
theorem test_wit_CfgavWritesAveraging :
    (at_ 0x00 []).cfg.ok = true ∧
    (at_ 0x00 [{}]).repliesWrite true ∧
    (at_ 0x00 [err]).repliesWrite false := by
  refine ⟨?_, ?_, ?_⟩
  · decide
  · exact ⟨by decide, by decide⟩
  · exact ⟨by decide, by decide⟩

/-- Both answers. -/
theorem test_wit_CfgctlWritesControl :
    (at_ 0x01 []).cfg.ok = true ∧
    (at_ 0x01 [{}]).repliesWrite true ∧
    (at_ 0x01 [err]).repliesWrite false := by
  refine ⟨?_, ?_, ?_⟩
  · decide
  · exact ⟨by decide, by decide⟩
  · exact ⟨by decide, by decide⟩

/-- Both replies of each read. -/
theorem test_wit_AnchorLoadsHalveTheByte :
    (at_ 0x02 []).cfg.ok = true ∧
    (at_ 0x02 [got [0xFF]]).repliesByte (at_ 0x02 []).cfg.aH0 (some 0xFF) ∧
    (at_ 0x02 [err]).repliesByte (at_ 0x02 []).cfg.aH0 none ∧
    (at_ 0x03 [got [0x01]]).repliesByte (at_ 0x03 []).cfg.aH1 (some 0x01) ∧
    (at_ 0x03 [err]).repliesByte (at_ 0x03 []).cfg.aH1 none := by
  refine ⟨?_, ?_, ?_, ?_, ?_⟩
  · decide
  · exact ⟨by decide, by decide⟩
  · exact ⟨by decide, by decide⟩
  · exact ⟨by decide, by decide⟩
  · exact ⟨by decide, by decide⟩

/-- Both replies of each read. -/
theorem test_wit_LatchLoadsKeepWholeByte :
    (at_ 0x06 []).cfg.ok = true ∧
    (at_ 0x06 [got [0xA7]]).repliesByte (at_ 0x06 []).cfg.aT0 (some 0xA7) ∧
    (at_ 0x06 [err]).repliesByte (at_ 0x06 []).cfg.aT0 none ∧
    (at_ 0x07 [got [0x11]]).repliesByte (at_ 0x07 []).cfg.aT1 (some 0x11) ∧
    (at_ 0x07 [err]).repliesByte (at_ 0x07 []).cfg.aT1 none ∧
    (at_ 0x08 [got [0xF0]]).repliesByte (at_ 0x08 []).cfg.aTmsb (some 0xF0) ∧
    (at_ 0x08 [err]).repliesByte (at_ 0x08 []).cfg.aTmsb none := by
  refine ⟨?_, ?_, ?_, ?_, ?_, ?_, ?_⟩
  · decide
  · exact ⟨by decide, by decide⟩
  · exact ⟨by decide, by decide⟩
  · exact ⟨by decide, by decide⟩
  · exact ⟨by decide, by decide⟩
  · exact ⟨by decide, by decide⟩
  · exact ⟨by decide, by decide⟩

/-- Both replies of each read. -/
theorem test_wit_PairLoadsStoreSignedCounts :
    (at_ 0x04 []).cfg.ok = true ∧
    (at_ 0x04 [got [0x00, 0x80]]).repliesPair (at_ 0x04 []).cfg.aH2 (some (0x00, 0x80)) ∧
    (at_ 0x04 [err]).repliesPair (at_ 0x04 []).cfg.aH2 none ∧
    (at_ 0x05 [got [0xFF, 0x7F]]).repliesPair (at_ 0x05 []).cfg.aH3 (some (0xFF, 0x7F)) ∧
    (at_ 0x05 [err]).repliesPair (at_ 0x05 []).cfg.aH3 none ∧
    (at_ 0x0A [got [0x00, 0xFF]]).repliesPair (at_ 0x0A []).cfg.aT2 (some (0x00, 0xFF)) ∧
    (at_ 0x0A [err]).repliesPair (at_ 0x0A []).cfg.aT2 none ∧
    (at_ 0x0B [got [0xE2, 0x02]]).repliesPair (at_ 0x0B []).cfg.aT3 (some (0xE2, 0x02)) ∧
    (at_ 0x0B [err]).repliesPair (at_ 0x0B []).cfg.aT3 none := by
  refine ⟨?_, ?_, ?_, ?_, ?_, ?_, ?_, ?_, ?_⟩
  · decide
  · exact ⟨by decide, by decide⟩
  · exact ⟨by decide, by decide⟩
  · exact ⟨by decide, by decide⟩
  · exact ⟨by decide, by decide⟩
  · exact ⟨by decide, by decide⟩
  · exact ⟨by decide, by decide⟩
  · exact ⟨by decide, by decide⟩
  · exact ⟨by decide, by decide⟩

/-- Both replies of each read. -/
theorem test_wit_RdhumReadsUnsignedSample :
    (at_ 0x10 []).cfg.ok = true ∧
    (at_ 0x10 [got [0x55, 0xF5]]).repliesPair (at_ 0x10 []).cfg.aHum (some (0x55, 0xF5)) ∧
    (at_ 0x10 [err]).repliesPair (at_ 0x10 []).cfg.aHum none := by
  refine ⟨?_, ?_, ?_⟩
  · decide
  · exact ⟨by decide, by decide⟩
  · exact ⟨by decide, by decide⟩

/-- Both replies of each read. -/
theorem test_wit_RdtempReadsPattern :
    ((at_ 0x1A []).cfg.ok = true ∧ ({ cal 0x1A [] with phy := { humR := some (f32 0x428C0000) } } : State).inv = true) ∧
    (at_ 0x1A [got [0x00, 0x80]]).repliesPair (at_ 0x1A []).cfg.aTemp (some (0x00, 0x80)) ∧
    (at_ 0x1A [err]).repliesPair (at_ 0x1A []).cfg.aTemp none := by
  refine ⟨?_, ?_, ?_⟩
  · decide
  · exact ⟨by decide, by decide⟩
  · exact ⟨by decide, by decide⟩

/-- All three latches hold a byte. -/
theorem test_wit_UnpktRebuildsAnchors :
    ({ at_ 0x09 [] with lat := ⟨some 0xFF, some 0xFF, some 0x0F⟩ } : State).lat = ⟨some 0xFF, some 0xFF, some 0x0F⟩ := rfl

/-- All four counts are there: a valid calibration, and one whose humidity counts are equal. -/
theorem test_wit_ChkcalValidatesDenominators :
    (({ at_ 0x0C [] with cal := refCal } : State).cal.h2 = some 3000 ∧ refCal.h3 = some 30000 ∧ refCal.t2 = some 0xFF00 ∧ refCal.t3 = some 738) ∧
    ({ at_ 0x0C [] with cal := { refCal with h3 := some 3000 } } : State).cal.h3 = refCal.h2 := by
  refine ⟨?_, ?_⟩
  · decide
  · decide

/-- A calibrated block with a sample. -/
theorem test_wit_CvhumConvertsHumidity :
    ({ cal 0x11 [] with raw := { hum := some 62805 } } : State).raw.hum = some 62805 ∧
    ({ cal 0x11 [] with raw := { hum := some 62805 } } : State).inv = true ∧
    ((cal 0x11 []).cal = refCal ∧ refCal.h0 = some 60 ∧ refCal.h1 = some 80 ∧ refCal.h2 = some 3000 ∧ refCal.h3 = some 30000) ∧
    ((cal 0x11 []).f.calValid = true ∧ (30000 : Word) ≠ 3000 ∧ (cal 0x11 []).cfg.num = .oneRounding) := by
  refine ⟨?_, ?_, ?_, ?_⟩
  · decide
  · decide
  · decide
  · decide

/-- A calibrated block with a sample. -/
theorem test_wit_CvtcConvertsTemperature :
    ({ cal 0x1B [] with raw := { temp := some 0x8000 } } : State).raw.temp = some 0x8000 ∧
    ({ cal 0x1B [] with raw := { temp := some 0x8000 }, phy := { humR := some (f32 0x428C0000) } } : State).inv = true ∧
    ((cal 0x1B []).cal = refCal ∧ refCal.t0 = some 167 ∧ refCal.t1 = some 17 ∧ refCal.t2 = some 0xFF00 ∧ refCal.t3 = some 738) ∧
    ((cal 0x1B []).f.calValid = true ∧ (738 : Word) ≠ 0xFF00 ∧ (cal 0x1B []).cfg.num = .oneRounding) := by
  refine ⟨?_, ?_, ?_, ?_⟩
  · decide
  · decide
  · decide
  · decide

/-- A Celsius value. -/
theorem test_wit_CvtfConvertsToFahrenheit :
    ({ cal 0x1C [] with phy := { tempC := some (f32 0xC2200000) } } : State).phy.tempC = some (f32 0xC2200000) ∧
    (cal 0x1C []).cfg.num = .oneRounding := by
  refine ⟨?_, ?_⟩
  · exact rfl
  · decide

/-- A value below 0, one above 100, and the bounds 0 and 100 themselves. -/
theorem test_wit_ClamphLimitsReportedCopy :
    (f32 0xC1200000).val.toRat < (Frac.ofInt (0)).toRat ∧
    (Frac.ofInt 100).toRat < (f32 0x42D0999A).val.toRat ∧
    ¬ (f32 0x00000000).val.toRat < (Frac.ofInt 0).toRat ∧
    ¬ (Frac.ofInt 100).toRat < (f32 0x42C80000).val.toRat ∧
    (hum 0x19 0x42D0999A .idle 0 []).phy.humU = some (f32 0x42D0999A) := by
  refine ⟨?_, ?_, ?_, ?_, ?_⟩
  · exact (Frac.lt_iff (by decide) (by decide)).1 (by decide : Frac.lt (f32 0xC1200000).val (Frac.ofInt (0)) = true)
  · exact (Frac.lt_iff (by decide) (by decide)).1 (by decide : Frac.lt (Frac.ofInt 100) (f32 0x42D0999A).val = true)
  · exact fun h => absurd ((Frac.lt_iff (a := (f32 0x00000000).val) (b := Frac.ofInt 0) (by decide) (by decide)).2 h) (by decide)
  · exact fun h => absurd ((Frac.lt_iff (a := Frac.ofInt 100) (b := (f32 0x42C80000).val) (by decide) (by decide)).2 h) (by decide)
  · exact rfl

/-- A value just above 95, and 95 itself. -/
theorem test_wit_SatchkBranchesAbove95 :
    (Frac.ofInt 95).toRat < (f32 0x42BE0061).val.toRat ∧
    ¬ (Frac.ofInt 95).toRat < (f32 0x42BE0000).val.toRat ∧
    (hum 0x12 0x42BE0061 .idle 0 []).phy.humU = some (f32 0x42BE0061) := by
  refine ⟨?_, ?_, ?_⟩
  · exact (Frac.lt_iff (by decide) (by decide)).1 (by decide : Frac.lt (Frac.ofInt 95) (f32 0x42BE0061).val = true)
  · exact fun h => absurd ((Frac.lt_iff (a := Frac.ofInt 95) (b := (f32 0x42BE0000).val) (by decide) (by decide)).2 h) (by decide)
  · exact rfl

/-- Above 95 with iterations left and with none, and 95 itself. -/
theorem test_wit_RetryLoopsWithinBudget :
    (Frac.ofInt 95).toRat < (f32 0x42C20000).val.toRat ∧
    ¬ (Frac.ofInt 95).toRat < (f32 0x42BE0000).val.toRat ∧
    (hum 0x18 0x42C20000 .cooldown 2 []).iter.toNat < (hum 0x18 0x42C20000 .cooldown 2 []).cfg.heaterMaxIter ∧
    (hum 0x18 0x42C20000 .cooldown 3 []).cfg.heaterMaxIter ≤ (hum 0x18 0x42C20000 .cooldown 3 []).iter.toNat ∧
    (hum 0x18 0x42C20000 .cooldown 3 []).inv = true ∧
    (hum 0x18 0x42C20000 .cooldown 2 []).phy.humU = some (f32 0x42C20000) := by
  refine ⟨?_, ?_, ?_, ?_, ?_, ?_⟩
  · exact (Frac.lt_iff (by decide) (by decide)).1 (by decide : Frac.lt (Frac.ofInt 95) (f32 0x42C20000).val = true)
  · exact fun h => absurd ((Frac.lt_iff (a := Frac.ofInt 95) (b := (f32 0x42BE0000).val) (by decide) (by decide)).2 h) (by decide)
  · decide
  · decide
  · decide
  · exact rfl

/-- A failed read; a read, and a write answered either way. -/
theorem test_wit_HtronSetsHeaterBit :
    (hum 0x13 0x42C20000 .idle 0 []).cfg.ok = true ∧
    (hum 0x13 0x42C20000 .idle 0 [err]).repliesByte 0x21 none ∧
    (hum 0x13 0x42C20000 .idle 0 [got [0x85], {}]).repliesByte 0x21 (some 0x85) ∧
    (busQuiet (hum 0x13 0x42C20000 .idle 0 [got [0x85], {}]).secondBus = true ∧ (hum 0x13 0x42C20000 .idle 0 [got [0x85], {}]).secondBus.ok = true) ∧
    (busQuiet (hum 0x13 0x42C20000 .idle 0 [got [0x85], err]).secondBus = true ∧ (hum 0x13 0x42C20000 .idle 0 [got [0x85], err]).secondBus.ok = false) := by
  refine ⟨?_, ?_, ?_, ?_, ?_⟩
  · decide
  · exact ⟨by decide, by decide⟩
  · exact ⟨by decide, by decide⟩
  · decide
  · decide

/-- A failed read; a read, and a write answered either way. -/
theorem test_wit_HtroffClearsHeaterBit :
    (hum 0x15 0x42C20000 .heating 0 []).cfg.ok = true ∧
    (hum 0x15 0x42C20000 .heating 0 [err]).repliesByte 0x21 none ∧
    (hum 0x15 0x42C20000 .heating 0 [got [0x85], {}]).repliesByte 0x21 (some 0x85) ∧
    (busQuiet (hum 0x15 0x42C20000 .heating 0 [got [0x85], {}]).secondBus = true ∧ (hum 0x15 0x42C20000 .heating 0 [got [0x85], {}]).secondBus.ok = true) ∧
    (busQuiet (hum 0x15 0x42C20000 .heating 0 [got [0x85], err]).secondBus = true ∧ (hum 0x15 0x42C20000 .heating 0 [got [0x85], err]).secondBus.ok = false) := by
  refine ⟨?_, ?_, ?_, ?_, ?_⟩
  · decide
  · exact ⟨by decide, by decide⟩
  · exact ⟨by decide, by decide⟩
  · decide
  · decide

/-- A whole wait, and a `TERM` with the last tick. -/
theorem test_wit_DwellWaitsItsTicks :
    (hum 0x14 0x42C20000 .heating 1 []).inv = true ∧
    (at_ 0x14 []).nextWait.what = .none ∧
    ({ at_ 0x14 [] with env := { waits := [⟨.term, 30⟩] } } : State).nextWait = ⟨.term, 30⟩ ∧
    30 ≤ (at_ 0x14 []).cfg.dwellS * (at_ 0x14 []).cfg.tickHz := by
  refine ⟨?_, ?_, ?_, ?_⟩
  · decide
  · decide
  · decide
  · decide

/-- A whole wait. -/
theorem test_wit_SleepStartsFreshCycle :
    (cal 0x1E []).inv = true ∧
    (at_ 0x1E []).nextWait.what = .none := by
  refine ⟨?_, ?_⟩
  · decide
  · decide

/-- Both answers of the sink, under the default numerics. -/
theorem test_wit_EmitSendsOneRecord :
    (readings []).cfg.num = .oneRounding ∧
    ((readings []).phy.humR = some (f32 0x428C0000) ∧ (readings []).phy.tempC = some (f32 0x41341393) ∧
      (readings []).phy.tempF = some (f32 0x425108CF)) ∧
    (sinkQuiet (readings [{}]).nextSink = true ∧ (readings [{}]).nextSink.ok = true) ∧
    (sinkQuiet (readings [{ ok := false }]).nextSink = true ∧ (readings [{ ok := false }]).nextSink.ok = false) := by
  refine ⟨?_, ?_, ?_, ?_⟩
  · decide
  · decide
  · decide
  · decide

/-- A halted block steps. -/
theorem test_wit_HaltedBlockIsSilent :
    (∃ t, step (at_ 0x3F []) = .next t) ∧
    ((at_ 0x3F []).ph = 0x3F ∧ (at_ 0x3F []).nextEvent ≠ .reset) := by
  refine ⟨?_, ?_⟩
  · exact ⟨_, rfl⟩
  · decide

/-- Counts 32767 and 0: a denominator that is not 0. -/
theorem test_wit_HumidityFormulaExact :
    (32767 : Word) ≠ 0x8000 ∧ (60 : BitVec 7) = 60 := by decide

/-- Counts -32768 and 32767. -/
theorem test_wit_TemperatureFormulasExact :
    (32767 : Word) ≠ 0x8000 ∧ (167 : BitVec 10) = 167 := by decide

/-- A tie between two values: 2^24 + 1. -/
theorem test_wit_RoundingIsNearestTiesEven :
    0 < (Frac.ofInt 16777217).den ∧ 16777217 ≤ (2 ^ 24 - 1) * 2 ^ 104 ∧ (rn32 (Frac.ofInt 16777217)).bits = 0x4B800000 := by decide

/-- The anchors of the reference calibration. -/
theorem test_wit_AnchorsAreExact :
    ((30000 : Word) ≠ 3000 ∧ (3000 : Int) = sext16 3000 ∧ (30000 : Int) = sext16 30000 ∧ 30000 < 65536) ∧
    (738 : Word) ≠ 0xFF00 := by
  refine ⟨?_, ?_⟩
  · decide
  · decide

/-- The reference calibration. -/
theorem test_wit_ThresholdAgreesWithExactHumidity :
    (30000 : Word) ≠ 3000 := by decide

/-- A step that puts a record on `LOG`, with no `RESET`. -/
theorem test_wit_StepPortsAreBounded :
    (∃ t, step (hum 0x13 0x42C20000 .idle 0 [got [0x85], err]) = .next t) ∧
    (hum 0x13 0x42C20000 .idle 0 [got [0x85], err]).noReset := by
  refine ⟨?_, ?_⟩
  · exact ⟨_, rfl⟩
  · unfold State.noReset; decide

/-- `TERM` between steps. -/
theorem test_wit_TermBetweenStepsSetsFlag :
    ({ at_ 0x02 [] with env := { events := [.term] } } : State).nextEvent = .term ∧ ({ at_ 0x02 [] with env := { events := [.term] } } : State).f.term = false ∧ ({ at_ 0x02 [] with env := { events := [.term] } } : State).cfg.ok = true := by decide

/-- A terminated block and no `RESET`. -/
theorem test_wit_TerminatedBlockTakesNoStep :
    ({ at_ 0x02 [] with f := { term := true } } : State).nextEvent ≠ .reset ∧ ({ at_ 0x02 [] with f := { term := true } } : State).f.term = true ∧ ({ at_ 0x02 [] with f := { term := true } } : State).cfg.ok = true := by decide

/-- `TERM` before the first request of a bus op, and before the sink request. -/
theorem test_wit_TermBeforeRequestKeepsState :
    ((at_ 0x02 [{ before := .term }]).nextBus.before = .term ∧ (at_ 0x02 []).cfg.ok = true ∧ Instr.ldh0 ∈ busOps ∧ Instr.ldh0 ≠ .htron) ∧
    ((readings [{ before := .term }]).nextSink.before = .term ∧ (readings []).phy.humR.isSome = true ∧ (readings []).phy.tempC.isSome = true ∧
      (readings []).phy.tempF.isSome = true) := by
  refine ⟨?_, ?_⟩
  · decide
  · decide

/-- `TERM` after the response of an op of each kind, and of the sink. -/
theorem test_wit_TermAfterResponseKeepsState :
    ((at_ 0x02 [{ after := .term }]).nextBus.before = .none ∧ (at_ 0x02 [{ after := .term }]).nextBus.after = .term ∧ (at_ 0x02 []).cfg.ok = true) ∧
    ((Instr.ldh0, 0x30) ∈ byteReads (at_ 0x02 []).cfg ∧ (Instr.rdhum, 0x28) ∈ pairReads (at_ 0x10 []).cfg ∧
      (Instr.cfgav, 0x10, 0x1B) ∈ configWrites (at_ 0x00 []).cfg) ∧
    ((readings [{ after := .term }]).nextSink.before = .none ∧ (readings [{ after := .term }]).nextSink.after = .term) := by
  refine ⟨?_, ?_, ?_⟩
  · decide
  · decide
  · decide

/-- `TERM` after the read, between the read and the write, and after the write. -/
theorem test_wit_TermInsideHeaterOpsKeepsEarlierWrites :
    (hum 0x13 0x42C20000 .idle 0 [got [0x85], { before := .term }]).cfg.ok = true ∧
    ((hum 0x15 0x42C20000 .heating 1 [{ after := .term }]).nextBus.before = .none ∧ (hum 0x15 0x42C20000 .heating 1 [{ after := .term }]).nextBus.after = .term) ∧
    (hum 0x13 0x42C20000 .idle 0 [got [0x85], { before := .term }]).repliesByte 0x21 (some 0x85) ∧
    (hum 0x13 0x42C20000 .idle 0 [got [0x85], { before := .term }]).secondBus.before = .term ∧
    (hum 0x15 0x42C20000 .heating 1 [got [0x85], { after := .term }]).repliesByte 0x21 (some 0x85) ∧
    ((hum 0x15 0x42C20000 .heating 1 [got [0x85], { after := .term }]).secondBus.before = .none ∧ (hum 0x15 0x42C20000 .heating 1 [got [0x85], { after := .term }]).secondBus.after = .term) := by
  refine ⟨?_, ?_, ?_, ?_, ?_, ?_⟩
  · decide
  · decide
  · exact ⟨by decide, by decide⟩
  · decide
  · exact ⟨by decide, by decide⟩
  · decide

/-- `TERM` with the last tick, and asked for after more ticks than the wait has. -/
theorem test_wit_TermInsideWaitKeepsRest :
    ({ at_ 0x14 [] with env := { waits := [⟨.term, 30⟩] } } : State).nextWait.what = .term ∧
    ({ at_ 0x1E [] with env := { waits := [⟨.term, 11⟩] } } : State).nextWait.what = .term := by
  refine ⟨?_, ?_⟩
  · decide
  · decide

/-- A configuration with another iteration bound and other cells. -/
theorem test_wit_ResetMeetsInvariant :
    ({ heaterMaxIter := 1, tickHz := 2 } : Cfg).ok = true ∧ Memory.wf cells = true := by decide

/-- A step of a calibrated block that meets the invariant. -/
theorem test_wit_StepKeepsInvariant :
    (∃ t, step (cal 0x10 [got [0x74, 0x40], {}]) = .next t) ∧
    (cal 0x10 [got [0x74, 0x40], {}]).inv = true := by
  refine ⟨?_, ?_⟩
  · exact ⟨_, rfl⟩
  · decide

/-- A calibrated block at the start of a cycle whose device's heater register is known to be 0. -/
def cool : State := cal 0x10 [{}]

/-- A block about to run a `RETRY` that loops: the second sample of program P2 (95), 97 %RH with one iteration begun. -/
def looping : State := hum 0x18 0x42C20000 .cooldown 1 []

/-- States of the invariant: in the dwell, in the re-measure, outside, and the three heater states at 0x13; and the step of 95 V9, from a state
of the invariant to a live state at 0x13 in `Cooldown`. -/
theorem test_wit_HeaterStateFollowsPhase :
    ((hum 0x14 0x42C20000 .heating 1 []).inv = true ∧ (hum 0x18 0x42C20000 .cooldown 1 []).inv = true ∧ cool.inv = true) ∧
    ((hum 0x13 0x42C20000 .idle 0 []).inv = true ∧ (hum 0x13 0x42C20000 .cooldown 1 []).inv = true) ∧
    ({ hum 0x13 0x42C20000 .heating 1 [] with f := { configured := true, calValid := true, term := true } } : State).inv = true ∧
    (looping.inv = true ∧ gives (step looping) (fun t => decide (t.ph = 0x13) && decide (t.hs = .cooldown) && !t.f.term && t.inv) = true) := by
  refine ⟨?_, ?_, ?_, ?_⟩
  · decide
  · decide
  · decide
  · decide

/-- The invariant leaves no other state at 0x13: not `Cooldown` before the first iteration, not `Idle` after it, not `Heating` in a live block. -/
theorem test_inv_at_htron : (hum 0x13 0x42C20000 .cooldown 0 []).inv = false ∧ (hum 0x13 0x42C20000 .idle 1 []).inv = false ∧
    (hum 0x13 0x42C20000 .heating 1 []).inv = false := by decide

/-- The same state. -/
theorem test_wit_NoModelFaultIsReachable :
    (cal 0x10 [got [0x74, 0x40], {}]).inv = true := by decide

/-- A block about to run `HTROFF`, the device's heater bit set. -/
def heated : State :=
  { hum 0x15 0x42C20000 .heating 1 [] with
    raw := { hum := some 51600 }
    env := { dev := [(0x21, 0x87)], events := [.none], bus := [{}, {}], sinks := [{}], waits := [{}] } }

/-- A block about to run `HTROFF`, with the premises. -/
theorem test_wit_HeaterOffUnlessHeating :
    (∃ t, step (heated) = .next t) ∧
    (heated.inv = true ∧ heated.heaterSafe = true ∧ heated.heaterBit = true) ∧
    heated.noReset ∧
    (∀ an ∈ heated.stepAnswers, P1 heated.cfg an ∧ P2 an) ∧
    heated.stepAnswers = [{}, {}] := by
  refine ⟨?_, ?_, ?_, ?_, ?_⟩
  · exact ⟨_, rfl⟩
  · decide
  · unfold State.noReset; decide
  · unfold P1 P2; decide
  · decide

/-- A step that makes no transaction takes no `RESET`, whatever the next answer names. -/
theorem test_wit_interrupt :
    ({ cal 0x11 [{ after := .reset }] with raw := { hum := some 51600 } } : State).noReset ∧ ({ cal 0x11 [{ after := .reset }] with raw := { hum := some 51600 } } : State).stepAnswers = [] := by unfold State.noReset; decide

/-- A block at the start of a cycle. -/
theorem test_wit_HeaterOffAtResetNeedsP4 :
    cool.inv = true ∧ cool.heaterSafe = true ∧ cool.f.htrUnsafe = false ∧ 0x10 ≤ cool.ph.toNat ∧ cool.ph.toNat ≤ 0x12 := by decide

/-- A step that writes a cell. -/
theorem test_wit_StepKeepsMemoryForm :
    (∃ t, step (at_ 0x00 [{}]) = .next t) ∧
    Memory.wf (at_ 0x00 [{}]).env.dev = true := by
  refine ⟨?_, ?_⟩
  · exact ⟨_, rfl⟩
  · decide

/-- A step with two requests. -/
theorem test_wit_StepIssuesOnlyLegalRequests :
    (∃ t, step (heated) = .next t) ∧
    heated.ph = 0x15 := by
  refine ⟨?_, ?_⟩
  · exact ⟨_, rfl⟩
  · decide

/-- The default configuration; a block about to run `HTROFF`, with the premises. -/
theorem test_wit_HeaterByteDiffersInOneBit :
    (∃ t, step (heated) = .next t) ∧
    (heated.cfg.ok = true ∧ Instr.htroff ∈ heaterOps) ∧
    (∀ an ∈ heated.opAnswers .htroff, P1 heated.cfg an ∧ ReadsCells an) := by
  refine ⟨?_, ?_, ?_⟩
  · exact ⟨_, rfl⟩
  · decide
  · unfold P1 ReadsCells; decide

/-- A step of a calibrated block without `RESET`. -/
theorem test_wit_CalibrationIsImmutable :
    (∃ t, step (cal 0x10 [got [0x74, 0x40], {}]) = .next t) ∧
    ((cal 0x10 [got [0x74, 0x40], {}]).inv = true ∧ (cal 0x10 [got [0x74, 0x40], {}]).f.calValid = true) ∧
    (cal 0x10 [got [0x74, 0x40], {}]).noReset := by
  refine ⟨?_, ?_, ?_⟩
  · exact ⟨_, rfl⟩
  · decide
  · unfold State.noReset; decide

/-- A step with neither `TERM` nor `RESET`. -/
theorem test_wit_StepGoesToSuccessor :
    (∃ t, step (cal 0x10 [got [0x74, 0x40], {}]) = .next t) ∧
    (cal 0x10 [got [0x74, 0x40], {}]).noReset ∧
    (cal 0x10 [got [0x74, 0x40], {}]).noTerm := by
  refine ⟨?_, ?_, ?_⟩
  · exact ⟨_, rfl⟩
  · unfold State.noReset; decide
  · unfold State.noTerm; decide

/-- An op that writes cell 0x10, seen from cell 0x20, while the environment changes cell 0x28. -/
theorem test_wit_MemoryFrame :
    (∃ t, exec .cfgav (at_ 0x00 [{ pokes := [(0x28, 0x01)] }, {}]) = .next t) ∧
    (∀ an ∈ (at_ 0x00 [{ pokes := [(0x28, 0x01)] }, {}]).opAnswers .cfgav, ∀ p ∈ changes an, p.1 ≠ 0x20) ∧
    (∀ an ∈ (at_ 0x00 [{ pokes := [(0x28, 0x01)] }, {}]).opAnswers .cfgav, P3 (at_ 0x00 []).cfg an) ∧
    0x20 ≠ (at_ 0x00 []).cfg.aAvconf.toNat := by
  refine ⟨?_, ?_, ?_, ?_⟩
  · exact ⟨_, rfl⟩
  · decide
  · unfold P3; decide
  · decide

/-- The highest cell; an answer that takes and one that does not. -/
theorem test_wit_WriteTakesEffectUnderP2 :
    (0x7F < 128 ∧ ({} : BusAnswer).ok = true) ∧
    P2 {} ∧
    P2 err := by
  refine ⟨?_, ?_, ?_⟩
  · decide
  · unfold P2; decide
  · unfold P2; decide

/-- 20 R49: a read may have a side effect on the device's cells, which the reply does not show. -/
theorem test_read_side_effect : gives (exec .ldh0 (at_ 0x02 [{ effects := [(0x30, 0x00)] }])) (fun t => decide (t.cal.h0 = some 60) &&
    decide (Memory.read t.env.dev 0x30 = some 0x00)) = true := by decide

/-- Each kind of answer. -/
theorem test_wit_PairReadIsAllOrNothing :
    err.ok = false ∧ ({} : BusAnswer).bytes = none ∧ (got [0x01]).bytes = some [0x01] ∧ [(0x01 : Byte)].length ≠ 2 ∧ (got [0x01, 0x02]).bytes = some [0x01, 0x02] := by decide

/-- Phase 0x33's op. -/
theorem test_wit_StepRunsDecodedOp :
    ((at_ 0x15 []).cfg.ok = true ∧ (at_ 0x15 []).nextEvent = .none ∧ (at_ 0x15 []).f.term = false ∧ (at_ 0x15 []).hs ≠ .pattern3) ∧
    (romCode (at_ 0x15 []).ph = some 0x33 ∧ Instr.htroff.wf = true) ∧
    decode [0x33] = .ok (.htroff, []) := by
  refine ⟨?_, ?_, ?_⟩
  · decide
  · decide
  · exact rfl

/-- An illegal phase on each side of the gap and above, and the highest. -/
theorem test_wit_MicroprogramTable :
    romCode 0x0D = none ∧ romCode 0x0F = none ∧ romCode 0x1F = none ∧ romCode 0xFF = none := by decide

/-- Well-formed ops, and bytes that decode. -/
theorem test_wit_DecodeInvertsEncode :
    Instr.halt.wf = true ∧
    decode [0x42, 0x00] = .ok (.halt, [0x00]) := by
  refine ⟨?_, ?_⟩
  · decide
  · exact rfl

/-- The code after the last of family 0. -/
theorem test_wit_OtherCodesAreRefused :
    ∀ i : Instr, i.code ≠ 0x02 := by intro i; cases i <;> decide

/-- A block without the value, for the last operand of each op that reads several; one without a valid calibration; one with equal counts. -/
theorem test_wit_OpsFaultWithoutOperands :
    (({ State.reset with lat := { tmsb := some 1, t0l := some 1 } } : State).missing .unpkt = some .latT1l ∧ State.reset.missing .unpkt = some .latTmsb) ∧
    (({ State.reset with cal := { refCal with t2 := none } } : State).missing .chkcal = some .calT2 ∧ State.reset.missing .chkcal = some .calH3) ∧
    ({ cal 0x11 [] with cal := { refCal with h3 := none }, raw := { hum := some 1 } } : State).missing .cvhum = some .calH3 ∧
    ({ cal 0x1B [] with cal := { refCal with t3 := none }, raw := { temp := some 1 } } : State).missing .cvtc = some .calT3 ∧
    (State.reset.missing .satchk = some .phyHumU ∧ State.reset.missing .cvtf = some .phyTempC ∧ State.reset.missing .halt = none) ∧
    ({ readings [] with phy := { (readings []).phy with tempF := none } } : State).missing .emit = some .phyTempF ∧
    faults (exec .cvhum { at_ 0x11 [] with cal := refCal, raw := { hum := some 1 } }) .calNotValid = true ∧
    faults (exec .cvtc { at_ 0x1B [] with cal := refCal, raw := { temp := some 1 } }) .calNotValid = true ∧
    faults (exec .cvhum { cal 0x11 [] with cal := { refCal with h3 := some 3000 }, raw := { hum := some 1 } }) .zeroDenominator = true ∧
    faults (exec .cvtc { cal 0x1B [] with cal := { refCal with t3 := some 0xFF00 }, raw := { temp := some 1 } }) .zeroDenominator = true := by
  refine ⟨?_, ?_, ?_, ?_, ?_, ?_, ?_, ?_, ?_, ?_⟩
  · decide
  · decide
  · decide
  · decide
  · decide
  · decide
  · decide
  · decide
  · decide
  · decide

/-- A bad configuration; a heater state 3; the phases next to the legal ones. -/
theorem test_wit_StepFaultsAndRefusals :
    ({ at_ 0x00 [] with cfg := { heaterMask := 0x06 } } : State).cfg.ok = false ∧
    (({ at_ 0x00 [] with hs := .pattern3 } : State).nextEvent = .none ∧ ({ at_ 0x00 [] with hs := .pattern3 } : State).cfg.ok = true) ∧
    ((at_ 0x0D []).f.term = false ∧ (at_ 0x0D []).hs ≠ .pattern3 ∧ romCode (at_ 0x0D []).ph = none ∧ romCode 0x40 = none) := by
  refine ⟨?_, ?_, ?_⟩
  · decide
  · decide
  · decide

end Sys2Proof.Tests
end

/-! SUPPORT. Rounding half to even (00_scope R8, 30_encoding R66) as a fact about rational numbers. -/

namespace Sys2Proof

/-- The quotient of naturals is its floor plus the remainder's share, which is below one. -/
theorem ratDiv_eq_floor_add {n d : ℕ} (hd : 0 < d) : (n : ℚ) / d = (n / d : ℕ) + ((n % d : ℕ) : ℚ) / d := by
  have hd' : (d : ℚ) ≠ 0 := by positivity
  have hn : (n : ℚ) = d * (n / d : ℕ) + (n % d : ℕ) := by exact_mod_cast (Nat.div_add_mod n d).symm
  field_simp
  exact hn

theorem roundHalfEven_floor_or_succ (n d : ℕ) : roundHalfEven n d = n / d ∨ roundHalfEven n d = n / d + 1 := by
  unfold roundHalfEven
  split_ifs <;> omega

/-- The rounded quotient is at most one half away, and even where it is exactly one half away. -/
theorem roundHalfEven_nearest {n d : ℕ} (hd : 0 < d) :
    |(roundHalfEven n d : ℚ) - n / d| ≤ 1 / 2 ∧ (|(roundHalfEven n d : ℚ) - n / d| = 1 / 2 → roundHalfEven n d % 2 = 0) := by
  have hd' : (0 : ℚ) < d := by exact_mod_cast hd
  have hρ0 : 0 ≤ ((n % d : ℕ) : ℚ) / d := by positivity
  have hρ1 : ((n % d : ℕ) : ℚ) / d < 1 := by rw [div_lt_one hd']; exact_mod_cast Nat.mod_lt n hd
  rw [ratDiv_eq_floor_add hd]
  unfold roundHalfEven
  split_ifs with below above
  · have h : ((n % d : ℕ) : ℚ) / d < 1 / 2 := by
      rw [div_lt_iff₀ hd']; have : (2 * (n % d : ℕ) : ℚ) < d := by exact_mod_cast below
      linarith
    rw [sub_add_cancel_left, abs_neg, abs_of_nonneg hρ0]
    exact ⟨h.le, fun tie => absurd tie h.ne⟩
  · have h : 1 / 2 < ((n % d : ℕ) : ℚ) / d := by
      rw [lt_div_iff₀ hd']; have : (d : ℚ) < 2 * (n % d : ℕ) := by exact_mod_cast above
      linarith
    have e : ((n / d + 1 : ℕ) : ℚ) - ((n / d : ℕ) + ((n % d : ℕ) : ℚ) / d) = 1 - ((n % d : ℕ) : ℚ) / d := by push_cast; ring
    rw [e, abs_of_nonneg (by linarith)]
    exact ⟨by linarith, fun tie => absurd tie (by linarith)⟩
  · have h : ((n % d : ℕ) : ℚ) / d = 1 / 2 := by
      rw [div_eq_iff hd'.ne']; have : (d : ℚ) = 2 * (n % d : ℕ) := by exact_mod_cast (by omega : d = 2 * (n % d))
      linarith
    refine ⟨?_, fun _ => by omega⟩
    rw [h]
    obtain even | odd := Nat.mod_two_eq_zero_or_one (n / d)
    · rw [even]; norm_num
    · rw [odd]; push_cast; rw [add_sub_add_left_eq_sub]; norm_num

end Sys2Proof

/-! SUPPORT. The finite binary32 values in order of their magnitude words, and `roundMag` between two neighbours (00_scope R8). -/

namespace Sys2Proof

/-- The value of a magnitude word in units of `2^-150`, for any number: `F32.scaled` without the bound. -/
def F32.magScaled (m : ℕ) : ℕ :=
  if m / 2 ^ 23 = 0 then m % 2 ^ 23 * 2 else (2 ^ 23 + m % 2 ^ 23) * 2 ^ (m / 2 ^ 23)

theorem F32.scaled_eq_magScaled (x : F32) : x.scaled = F32.magScaled x.mag.val := rfl

/-- A magnitude word taken apart as `roundMag` builds it: `k` low bits lost, significand `r`, which may carry into the next binade. -/
theorem F32.magScaled_mul_add {k r : ℕ} (hr : r ≤ 2 ^ 24) (hk : k = 0 ∨ 2 ^ 23 ≤ r) :
    F32.magScaled (k * 2 ^ 23 + r) = r * 2 ^ (k + 1) := by
  unfold F32.magScaled
  obtain subnormal | normal | carry : (r < 2 ^ 23) ∨ (2 ^ 23 ≤ r ∧ r < 2 ^ 24) ∨ r = 2 ^ 24 := by omega
  · obtain rfl : k = 0 := by omega
    rw [if_pos (by omega), show (0 * 2 ^ 23 + r) % 2 ^ 23 = r by omega, zero_add, pow_one]
  · rw [show (k * 2 ^ 23 + r) / 2 ^ 23 = k + 1 by omega, if_neg (by omega),
      show 2 ^ 23 + (k * 2 ^ 23 + r) % 2 ^ 23 = r by omega]
  · rw [show (k * 2 ^ 23 + r) / 2 ^ 23 = k + 2 by omega, if_neg (by omega),
      show 2 ^ 23 + (k * 2 ^ 23 + r) % 2 ^ 23 = 2 ^ 23 by omega, carry]
    ring

/-- Every number is a magnitude word with a significand below the carry. -/
theorem F32.exists_mul_add (m : ℕ) : ∃ k r, m = k * 2 ^ 23 + r ∧ r < 2 ^ 24 ∧ (k = 0 ∨ 2 ^ 23 ≤ r) := by
  obtain subnormal | normal := Nat.lt_or_ge m (2 ^ 23)
  · exact ⟨0, m, by omega, by omega, .inl rfl⟩
  · exact ⟨m / 2 ^ 23 - 1, m % 2 ^ 23 + 2 ^ 23, by omega, by omega, .inr (by omega)⟩

theorem F32.magScaled_strictMono : StrictMono F32.magScaled := by
  refine strictMono_nat_of_lt_succ fun m => ?_
  obtain ⟨k, r, rfl, hr, hk⟩ := F32.exists_mul_add m
  rw [add_assoc, F32.magScaled_mul_add hr.le hk, F32.magScaled_mul_add hr (by omega)]
  exact Nat.mul_lt_mul_of_pos_right (Nat.lt_succ_self r) (by positivity)

/-- The rational value of a magnitude word. -/
def F32.magVal (m : ℕ) : ℚ := F32.magScaled m / 2 ^ 150

theorem F32.magVal_strictMono : StrictMono F32.magVal := fun _ _ h =>
  div_lt_div_of_pos_right (by exact_mod_cast F32.magScaled_strictMono h) (by positivity)

theorem F32.magVal_zero : F32.magVal 0 = 0 := by simp [F32.magVal, F32.magScaled]

theorem F32.magVal_nonneg (m : ℕ) : 0 ≤ F32.magVal m := by unfold F32.magVal; positivity

theorem F32.magVal_maxMag : F32.magVal F32.maxMag = (2 ^ 24 - 1) * 2 ^ 104 := by
  norm_num [F32.magVal, F32.magScaled, F32.maxMag]

theorem F32.toRat_val (x : F32) : x.val.toRat = (if x.neg then -1 else 1) * F32.magVal x.mag.val := by
  unfold F32.val F32.magVal Frac.toRat
  rw [F32.scaled_eq_magScaled]
  split_ifs <;> push_cast <;> ring

theorem F32.abs_toRat_val (x : F32) : |x.val.toRat| = F32.magVal x.mag.val := by
  rw [F32.toRat_val, abs_mul, abs_of_nonneg (F32.magVal_nonneg _)]
  split_ifs <;> norm_num

/-- A value of either sign that some magnitude word has lies at one of two neighbouring magnitudes or outside them. -/
theorem F32.le_or_ge_of_abs_eq_magVal {y : ℚ} {j : ℕ} (hy : |y| = F32.magVal j) (m : ℕ) :
    y ≤ F32.magVal m ∨ F32.magVal (m + 1) ≤ y := by
  obtain low | high := Nat.lt_or_ge m j
  · obtain pos | neg := abs_choice y
    · exact .inr (pos ▸ hy ▸ F32.magVal_strictMono.monotone low)
    · exact .inl ((by linarith [abs_nonneg y] : y ≤ 0).trans (F32.magVal_nonneg m))
  · exact .inl ((le_abs_self y).trans (hy ▸ F32.magVal_strictMono.monotone high))

/-- The number of low bits of `a / d`, in units of the smallest subnormal, that `roundMag` cannot hold. -/
def F32.lostBits (a d : ℕ) : ℕ := Nat.log2 (a * 2 ^ 149 / d) - 23

/-- The significand of `a / d` before it is rounded: `a / d` in units of the last bit kept, rounded down. -/
def F32.floorSig (a d : ℕ) : ℕ := a * 2 ^ 149 / (d * 2 ^ F32.lostBits a d)

theorem F32.roundMag_eq (a d : ℕ) :
    F32.roundMag a d = F32.lostBits a d * 2 ^ 23 + roundHalfEven (a * 2 ^ 149) (d * 2 ^ F32.lostBits a d) := rfl

theorem F32.floorSig_lt (a d : ℕ) : F32.floorSig a d < 2 ^ 24 := by
  unfold F32.floorSig
  rw [← Nat.div_div_eq_div_mul, Nat.div_lt_iff_lt_mul (by positivity), ← pow_add]
  calc a * 2 ^ 149 / d < 2 ^ (Nat.log2 (a * 2 ^ 149 / d) + 1) := Nat.lt_log2_self
    _ ≤ 2 ^ (24 + F32.lostBits a d) := Nat.pow_le_pow_right (by decide) (by unfold F32.lostBits; omega)

/-- Where bits are lost the significand is full: its leading bit is the hidden one. -/
theorem F32.lostBits_eq_zero_or_le_floorSig (a d : ℕ) : F32.lostBits a d = 0 ∨ 2 ^ 23 ≤ F32.floorSig a d := by
  refine or_iff_not_imp_left.2 fun lost => ?_
  have hlog : 23 + F32.lostBits a d = Nat.log2 (a * 2 ^ 149 / d) := by unfold F32.lostBits at *; omega
  have hne : a * 2 ^ 149 / d ≠ 0 := fun h => by rw [h, Nat.log2_zero] at hlog; omega
  unfold F32.floorSig
  rw [← Nat.div_div_eq_div_mul, Nat.le_div_iff_mul_le (by positivity), ← pow_add, hlog]
  exact Nat.log2_self_le hne

/-- Of a point between two neighbours, one of them at most one half away is nearest among all values not strictly between them;
another value is as near only if the distance is one half. -/
theorem nearest_of_abs_sub_le_half {c r t z : ℚ} (hr : r = c ∨ r = c + 1) (hc : c ≤ t) (ht : t ≤ c + 1)
    (half : |r - t| ≤ 1 / 2) (hz : z ≤ c ∨ c + 1 ≤ z) :
    |r - t| ≤ |z - t| ∧ (|z - t| = |r - t| → z ≠ r → |r - t| = 1 / 2) := by
  have lower : |c - t| = t - c := by rw [abs_sub_comm]; exact abs_of_nonneg (by linarith)
  have upper : |c + 1 - t| = c + 1 - t := abs_of_nonneg (by linarith)
  obtain below | above := hz
  · have dist : |z - t| = t - z := by rw [abs_sub_comm]; exact abs_of_nonneg (by linarith)
    obtain rfl | rfl := hr
    · rw [lower] at half
      rw [dist, lower]
      exact ⟨by linarith, fun tie other => absurd (by linarith) other⟩
    · rw [upper] at half
      rw [dist, upper]
      exact ⟨by linarith, fun tie _ => by linarith⟩
  · have dist : |z - t| = z - t := abs_of_nonneg (by linarith)
    obtain rfl | rfl := hr
    · rw [lower] at half
      rw [dist, lower]
      exact ⟨by linarith, fun tie _ => by linarith⟩
    · rw [upper] at half
      rw [dist, upper]
      exact ⟨by linarith, fun tie other => absurd (by linarith) other⟩

/-- The weight of the last bit kept of `a / d`. -/
def F32.lastBit (a d : ℕ) : ℚ := 2 ^ (F32.lostBits a d + 1) / 2 ^ 150

theorem F32.lastBit_pos (a d : ℕ) : 0 < F32.lastBit a d := by unfold F32.lastBit; positivity

/-- A magnitude word of the binade of `a / d`, the carry out of it included, is its significand times the last bit's weight. -/
theorem F32.magVal_eq_mul_lastBit {a d r : ℕ} (hr : r = F32.floorSig a d ∨ r = F32.floorSig a d + 1) :
    F32.magVal (F32.lostBits a d * 2 ^ 23 + r) = r * F32.lastBit a d := by
  have bound := F32.floorSig_lt a d
  have full := F32.lostBits_eq_zero_or_le_floorSig a d
  unfold F32.magVal F32.lastBit
  rw [F32.magScaled_mul_add (by omega) (by omega)]
  push_cast
  ring

theorem F32.ratDiv_eq_mul_lastBit {a d : ℕ} (hd : 0 < d) :
    (a : ℚ) / d = ((a * 2 ^ 149 : ℕ) : ℚ) / (d * 2 ^ F32.lostBits a d : ℕ) * F32.lastBit a d := by
  have : (d : ℚ) ≠ 0 := by positivity
  unfold F32.lastBit
  push_cast
  field_simp
  ring

/-- Of all the values with a magnitude word, of either sign, `roundMag` gives one nearest to `a / d`, and an even one at a tie. -/
theorem F32.roundMag_nearest {a d : ℕ} (hd : 0 < d) {y : ℚ} {j : ℕ} (hy : |y| = F32.magVal j) :
    |F32.magVal (F32.roundMag a d) - a / d| ≤ |y - a / d| ∧
      (|y - a / d| = |F32.magVal (F32.roundMag a d) - a / d| → y ≠ F32.magVal (F32.roundMag a d) → F32.roundMag a d % 2 = 0) := by
  have hD : 0 < d * 2 ^ F32.lostBits a d := by positivity
  have hu := F32.lastBit_pos a d
  have hR : roundHalfEven (a * 2 ^ 149) (d * 2 ^ F32.lostBits a d) = F32.floorSig a d ∨
      roundHalfEven (a * 2 ^ 149) (d * 2 ^ F32.lostBits a d) = F32.floorSig a d + 1 := roundHalfEven_floor_or_succ _ _
  obtain ⟨half, even⟩ := roundHalfEven_nearest (n := a * 2 ^ 149) hD
  have outside := F32.le_or_ge_of_abs_eq_magVal hy (F32.lostBits a d * 2 ^ 23 + F32.floorSig a d)
  rw [add_assoc, F32.magVal_eq_mul_lastBit (.inl rfl), F32.magVal_eq_mul_lastBit (.inr rfl)] at outside
  rw [F32.roundMag_eq, F32.magVal_eq_mul_lastBit hR, F32.ratDiv_eq_mul_lastBit hd]
  -- In units of the last bit kept, the neighbours are one apart.
  obtain ⟨z, rfl⟩ : ∃ z, y = z * F32.lastBit a d := ⟨y / F32.lastBit a d, (div_mul_cancel₀ y hu.ne').symm⟩
  rw [mul_le_mul_iff_left₀ hu, mul_le_mul_iff_left₀ hu] at outside
  have floor_le : (F32.floorSig a d : ℚ) ≤ (a * 2 ^ 149 : ℕ) / (d * 2 ^ F32.lostBits a d : ℕ) := Nat.cast_div_le
  have le_succ : ((a * 2 ^ 149 : ℕ) : ℚ) / (d * 2 ^ F32.lostBits a d : ℕ) ≤ F32.floorSig a d + 1 := by
    rw [F32.floorSig, ← Nat.floor_div_eq_div (K := ℚ)]
    exact (Nat.lt_floor_add_one _).le
  obtain ⟨near, tie⟩ := nearest_of_abs_sub_le_half (by exact_mod_cast hR) floor_le le_succ half (by exact_mod_cast outside)
  rw [← sub_mul, ← sub_mul, abs_mul, abs_mul, mul_le_mul_iff_left₀ (abs_pos.2 hu.ne'), mul_left_inj' (abs_ne_zero.2 hu.ne'),
    Ne, mul_left_inj' hu.ne']
  refine ⟨near, fun eq ne => ?_⟩
  have := even (tie eq ne)
  omega

/-- Beyond the largest finite value `roundMag` would be farther from `a / d` than that value is, against `roundMag_nearest`. -/
theorem F32.roundMag_le_maxMag {a d : ℕ} (hd : 0 < d) (ha : (a : ℚ) / d ≤ F32.magVal F32.maxMag) :
    F32.roundMag a d ≤ F32.maxMag := by
  by_contra beyond
  have far := F32.magVal_strictMono (not_le.1 beyond)
  have near := (F32.roundMag_nearest (a := a) hd (abs_of_nonneg (F32.magVal_nonneg F32.maxMag))).1
  rw [abs_of_nonneg (by linarith), abs_of_nonneg (by linarith)] at near
  linarith

theorem rn32_mag {q : Frac} (h : F32.roundMag q.num.natAbs q.den ≤ F32.maxMag) :
    (rn32 q).mag.val = F32.roundMag q.num.natAbs q.den := by
  simp [rn32, F32.make, h]

/-- In range `rn32` has the sign of `q`; that a zero result is +0 (41_converter R109) does not show in its value. -/
theorem toRat_val_rn32 {q : Frac} (h : F32.roundMag q.num.natAbs q.den ≤ F32.maxMag) :
    (rn32 q).val.toRat = (if q.num < 0 then -1 else 1) * F32.magVal (F32.roundMag q.num.natAbs q.den) := by
  rw [F32.toRat_val, rn32_mag h]
  obtain zero | nonzero := eq_or_ne (F32.roundMag q.num.natAbs q.den) 0
  · rw [zero, F32.magVal_zero, mul_zero, mul_zero]
  · simp [rn32, F32.make, h, nonzero]

theorem Frac.toRat_eq_sign_mul (q : Frac) :
    q.toRat = (if q.num < 0 then -1 else 1) * ((q.num.natAbs : ℚ) / q.den) := by
  unfold Frac.toRat
  rw [Nat.cast_natAbs, Int.cast_abs]
  split_ifs with neg
  · rw [abs_of_neg (by exact_mod_cast neg)]; ring
  · rw [abs_of_nonneg (by exact_mod_cast not_lt.1 neg), one_mul]

/-- Settles O27: the value is brought to the positive side by the sign of `q`, where `roundMag` is nearest. -/
theorem roundingIsNearestTiesEven : Obligations.RoundingIsNearestTiesEven := by
  unfold Obligations.RoundingIsNearestTiesEven
  intro q x hd hq
  rw [Frac.toRat_eq_sign_mul q] at hq ⊢
  have hσ : |(if q.num < 0 then -1 else 1 : ℚ)| = 1 := by split_ifs <;> norm_num
  rw [abs_mul, hσ, one_mul, abs_of_nonneg (by positivity), ← F32.magVal_maxMag] at hq
  have inRange := F32.roundMag_le_maxMag hd hq
  rw [toRat_val_rn32 inRange, rn32_mag inRange]
  generalize (if q.num < 0 then -1 else 1 : ℚ) = σ at *
  have hσ0 : σ ≠ 0 := by rintro rfl; simp at hσ
  have flip (y z : ℚ) : |σ * y - σ * z| = |y - z| := by rw [← mul_sub, abs_mul, hσ, one_mul]
  obtain ⟨y, hy⟩ : ∃ y, x.val.toRat = σ * y := ⟨x.val.toRat / σ, (mul_div_cancel₀ _ hσ0).symm⟩
  have abs_y : |y| = F32.magVal x.mag.val := by rw [← F32.abs_toRat_val, hy, abs_mul, hσ, one_mul]
  obtain ⟨near, tie⟩ := F32.roundMag_nearest hd abs_y
  rw [hy, flip, flip]
  exact ⟨near, fun eq ne => tie eq (fun same => ne (by rw [same]))⟩

end Sys2Proof

/-! SUPPORT. Each check of `Cfg.ok` as the constraint of 00_scope R7 it stands for. -/

namespace Sys2Proof

theorem Cfg.addressesInRange_iff (c : Cfg) : c.addressesInRange = true ↔ ∀ a ∈ c.bases, a.toNat ≤ 0x7F := by
  simp only [Cfg.addressesInRange, List.all_eq_true, decide_eq_true_eq]

theorem Cfg.basesDistinct_iff (c : Cfg) : c.basesDistinct = true ↔ c.bases.Nodup := decide_eq_true_iff

/-- Below 0x7F the successor as a byte is the successor as a number. -/
theorem Cfg.pairsFit_iff (c : Cfg) : c.pairsFit = true ↔
    ∀ a ∈ c.pairBases, a.toNat + 1 ≤ 0x7F ∧ ∀ b ∈ c.bases, b.toNat ≠ a.toNat + 1 := by
  simp only [Cfg.pairsFit, List.all_eq_true, Bool.and_eq_true, decide_eq_true_eq, Bool.not_eq_true', List.contains_eq_mem,
    decide_eq_false_iff_not]
  refine forall₂_congr fun a _ => and_congr_right fun small => ?_
  have succ : (a + 1).toNat = a.toNat + 1 := by rw [BitVec.toNat_add_of_lt (by simp; omega)]; rfl
  constructor
  · exact fun fresh b hb same => fresh (BitVec.eq_of_toNat_eq (same.trans succ.symm) ▸ hb)
  · exact fun fresh hb => fresh _ hb succ

theorem Cfg.maskOneHot_iff (c : Cfg) : c.maskOneHot = true ↔ ∃ k < 8, c.heaterMask.toNat = 2 ^ k := by
  simp only [Cfg.maskOneHot, List.any_eq_true, List.mem_range, decide_eq_true_eq]
  refine exists_congr fun k => and_congr_right fun hk => ?_
  rw [BitVec.toNat_eq, BitVec.toNat_ofNat, Nat.mod_eq_of_lt (Nat.pow_lt_pow_right (by decide) hk)]

theorem Cfg.iterInRange_iff (c : Cfg) : c.iterInRange = true ↔ 1 ≤ c.heaterMaxIter ∧ c.heaterMaxIter ≤ 255 := by
  simp only [Cfg.iterInRange, Bool.and_eq_true, decide_eq_true_eq]

theorem Cfg.delaysPositive_iff (c : Cfg) : c.delaysPositive = true ↔ 0 < c.dwellS * c.tickHz ∧ 0 < 10 * c.tickHz := by
  rw [Cfg.delaysPositive, Bool.and_eq_true, decide_eq_true_iff, decide_eq_true_iff]
  rfl

/-- Settles O60: check by check. -/
theorem configurationConstraints : Obligations.ConfigurationConstraints := by
  unfold Obligations.ConfigurationConstraints
  intro c
  simp only [Cfg.ok, Bool.and_eq_true, and_assoc, Cfg.addressesInRange_iff, Cfg.basesDistinct_iff, Cfg.pairsFit_iff,
    Cfg.maskOneHot_iff, Cfg.iterInRange_iff, Cfg.delaysPositive_iff]

end Sys2Proof

/-! SUPPORT. What no op and no step can do at the ports, whatever state it starts from: the configuration stays, the device's cells stay in
canonical form, and the trace only grows, by items the block may issue (10_state R25, R34; 20_memory R40, R41). -/

namespace Sys2Proof.Machine

open Sys2Proof

/-- From `s` to `t` the configuration is carried along, the device's cells keep their canonical form, and what is new on the trace is legal. -/
structure PortsKept (s t : State) : Prop where
  cfg : t.cfg = s.cfg
  dev : Memory.wf s.env.dev = true → Memory.wf t.env.dev = true
  trace : ∃ es, t.trace = s.trace ++ es ∧ ∀ e ∈ es, e.legal s.cfg = true

theorem PortsKept.refl (s : State) : PortsKept s s := ⟨rfl, id, [], by simp⟩

/-- An update of the block's own registers. -/
theorem PortsKept.of_frame {s u t : State} (h : PortsKept s u) (cfg : t.cfg = u.cfg) (dev : t.env.dev = u.env.dev)
    (trace : t.trace = u.trace) : PortsKept s t :=
  ⟨cfg.trans h.cfg, fun wf => dev ▸ h.dev wf, trace ▸ h.trace⟩

/-- A change of the device's cells that keeps their form, with a legal item on the trace. -/
theorem PortsKept.record {s u t : State} {e : Event} (h : PortsKept s u) (legal : e.legal u.cfg = true) (cfg : t.cfg = u.cfg)
    (dev : Memory.wf u.env.dev = true → Memory.wf t.env.dev = true) (trace : t.trace = u.trace ++ [e]) : PortsKept s t := by
  obtain ⟨es, grown, allLegal⟩ := h.trace
  refine ⟨cfg.trans h.cfg, fun wf => dev (h.dev wf), es ++ [e], by rw [trace, grown, List.append_assoc], fun e' mem => ?_⟩
  rcases List.mem_append.1 mem with old | new
  · exact allLegal e' old
  · rw [List.mem_singleton.1 new, ← h.cfg, legal]

theorem PortsKept.takeTerm {s u : State} (h : PortsKept s u) : PortsKept s u.takeTerm := h.of_frame rfl rfl rfl

theorem PortsKept.takeReset {s u : State} (h : PortsKept s u) : PortsKept s u.takeReset := h.of_frame rfl rfl rfl

theorem PortsKept.raise {s u : State} (h : PortsKept s u) (e : ErrKind) (addr : Byte) (rw : Bool) : PortsKept s (u.raise e addr rw) := by
  obtain ⟨cfg, -, -, -, -, -, -, env⟩ := u.raise_frame e addr rw
  exact h.record (e := .log _) rfl cfg (fun wf => env ▸ wf) (u.raise_record e addr rw).2

/-! ### The shared operations -/

theorem PortsKept.transact {α : Type} {s u : State} {carry : BusAnswer → Memory → α × Memory} {event : α → Event}
    {k : α → State → State} (h : PortsKept s u) (wf_carry : ∀ an m, Memory.wf m = true → Memory.wf (carry an m).2 = true)
    (legal : ∀ r, (event r).legal u.cfg = true) (next : ∀ r v, PortsKept s v → PortsKept s (k r v)) :
    PortsKept s (u.transact carry event k) := by
  have drawn : PortsKept s u.drawBus := h.of_frame rfl rfl rfl
  have answered : PortsKept s (u.carried carry event) :=
    h.record (legal _) rfl (fun wf => wf_carry _ _ (Memory.wf_writeAll _ wf)) rfl
  exact State.transact_ind (fun _ => drawn.takeTerm) (fun _ => drawn.takeReset) (fun _ _ => answered.takeTerm)
    (fun _ _ => answered.takeReset) (fun _ _ => next _ _ answered)

theorem PortsKept.memRead1 {s u : State} {a : Byte} {k : Option Byte → State → State} (h : PortsKept s u)
    (right : a ∈ [u.cfg.aHeater, u.cfg.aH0, u.cfg.aH1, u.cfg.aT0, u.cfg.aT1, u.cfg.aTmsb])
    (next : ∀ r v, PortsKept s v → PortsKept s (k r v)) : PortsKept s (u.memRead1 a k) :=
  h.transact (fun an _ => wf_readCells an) (fun _ => by simpa [Event.legal] using right) next

theorem PortsKept.memRead2 {s u : State} {a : Byte} {k : Option Word → State → State} (h : PortsKept s u)
    (right : a ∈ u.cfg.pairBases) (next : ∀ r v, PortsKept s v → PortsKept s (k r v)) : PortsKept s (u.memRead2 a k) :=
  h.transact (fun an _ => wf_readCells an)
    (fun _ => by simpa [Event.legal] using (⟨a, right, rfl⟩ : ∃ b ∈ u.cfg.pairBases, u.cfg.incByte b = u.cfg.incByte a))
    fun _ => next _

theorem PortsKept.memWrite1 {s u : State} {a b : Byte} {k : Bool → State → State} (h : PortsKept s u)
    (right : (a = u.cfg.aAvconf ∧ b = u.cfg.avconfValue ∨ a = u.cfg.aCtrl ∧ b = u.cfg.ctrlValue) ∨ a = u.cfg.aHeater)
    (next : ∀ r v, PortsKept s v → PortsKept s (k r v)) : PortsKept s (u.memWrite1 a b k) :=
  h.transact (fun an _ => wf_writtenCells an _ _) (fun _ => by simpa [Event.legal] using right) next

theorem PortsKept.sinkRequest {s u : State} {text : List Byte} {k : Bool → State → State} (h : PortsKept s u)
    (next : ∀ r v, PortsKept s v → PortsKept s (k r v)) : PortsKept s (u.sinkRequest text k) := by
  have drawn : PortsKept s u.drawSink := h.of_frame rfl rfl rfl
  refine State.sinkRequest_ind (fun _ => drawn.takeTerm) (fun _ => drawn.takeReset) ?_
  rintro _ rfl
  have answered (left : Option (List Byte)) : PortsKept s ((u.drawSink.setSink left).record (.sink text u.nextSink.ok)) :=
    h.record (e := .sink text u.nextSink.ok) rfl rfl id rfl
  exact ⟨fun _ => (answered _).takeTerm, fun _ => (answered _).takeReset, fun _ => next _ _ (answered _)⟩

theorem PortsKept.wait {s u : State} {k : State → State} (h : PortsKept s u) (next : ∀ v, PortsKept s v → PortsKept s (k v)) :
    PortsKept s (u.wait k) := by
  have waited (n m : Nat) : PortsKept s ({ u.drawWait with tmr := n }.record (.wait m)) := h.record (e := .wait m) rfl rfl id rfl
  exact State.wait_ind (fun n _ => (waited _ n).takeTerm) (fun n _ => (waited _ n).takeReset) (next _ (waited _ _))

/-! ### The access forms of the ops -/

theorem PortsKept.configWrite {s u : State} {a b : Byte} {k : State → State} (h : PortsKept s u)
    (right : a = u.cfg.aAvconf ∧ b = u.cfg.avconfValue ∨ a = u.cfg.aCtrl ∧ b = u.cfg.ctrlValue)
    (next : ∀ v, PortsKept s v → PortsKept s (k v)) : PortsKept s (u.configWrite a b k) := by
  refine h.memWrite1 (.inl right) fun ok v hv => ?_
  cases ok
  · exact hv.raise _ _ _
  · exact next v hv

theorem PortsKept.calByte {s u : State} {a : Byte} {k : Byte → State → State} (h : PortsKept s u)
    (right : a ∈ [u.cfg.aH0, u.cfg.aH1, u.cfg.aT0, u.cfg.aT1, u.cfg.aTmsb])
    (next : ∀ b v, PortsKept s v → PortsKept s (k b v)) : PortsKept s (u.calByte a k) := by
  refine h.memRead1 (List.mem_cons_of_mem _ right) fun r v hv => ?_
  cases r
  · exact hv.raise _ _ _
  · exact next _ v hv

theorem PortsKept.calPair {s u : State} {a : Byte} {k : Word → State → State} (h : PortsKept s u) (right : a ∈ u.cfg.pairBases)
    (next : ∀ w v, PortsKept s v → PortsKept s (k w v)) : PortsKept s (u.calPair a k) := by
  refine h.memRead2 right fun r v hv => ?_
  cases r
  · exact hv.raise _ _ _
  · exact next _ v hv

theorem PortsKept.dataPair {s u : State} {a : Byte} {k : Word → State → State} (h : PortsKept s u) (right : a ∈ u.cfg.pairBases)
    (next : ∀ w v, PortsKept s v → PortsKept s (k w v)) : PortsKept s (u.dataPair a k) := by
  refine h.memRead2 right fun r v hv => ?_
  cases r
  · exact hv.raise _ _ _
  · exact next _ v hv

theorem PortsKept.heaterRmw {s u : State} {change : Byte → Byte} {done : Option Bool → State → State} (h : PortsKept s u)
    (next : ∀ failed v, PortsKept s v → PortsKept s (done failed v)) : PortsKept s (u.heaterRmw change done) := by
  refine h.memRead1 List.mem_cons_self fun r v hv => ?_
  cases r with
  | none => exact next _ v hv
  | some b =>
    have latched : PortsKept s { v with hreg := some b } := hv.of_frame rfl rfl rfl
    exact latched.memWrite1 (.inr rfl) fun ok w hw => next _ w hw

/-! ### The ops and the step -/

theorem convertible_next {valid : Bool} {low high : Word} {o : Out} {t : State} (h : convertible valid low high o = .next t) :
    valid = true ∧ high ≠ low ∧ o = .next t := by
  unfold convertible at h
  split_ifs at h with hv he
  exact ⟨hv, he, h⟩

theorem exec_portsKept {i : Instr} {s t : State} (h : exec i s = .next t) : PortsKept s t := by
  have start := PortsKept.refl s
  cases i with
  | cfgav =>
    obtain ⟨-, ⟨⟩⟩ := onCells_next h
    exact start.configWrite (.inl ⟨rfl, rfl⟩) fun v hv => hv.of_frame rfl rfl rfl
  | cfgctl =>
    obtain ⟨-, ⟨⟩⟩ := onCells_next h
    exact start.configWrite (.inr ⟨rfl, rfl⟩) fun v hv => hv.of_frame rfl rfl rfl
  | ldh0 | ldh1 | ldt0l | ldt1l | ldtmsb =>
    obtain ⟨-, ⟨⟩⟩ := onCells_next h
    exact start.calByte (by simp) fun b v hv => hv.of_frame rfl rfl rfl
  | ldh2 | ldh3 | ldt2 | ldt3 =>
    obtain ⟨-, ⟨⟩⟩ := onCells_next h
    exact start.calPair (by simp [Cfg.pairBases]) fun w v hv => hv.of_frame rfl rfl rfl
  | unpkt =>
    obtain ⟨_, -, h⟩ := need_next h
    obtain ⟨_, -, h⟩ := need_next h
    obtain ⟨_, -, ⟨⟩⟩ := need_next h
    exact start.of_frame rfl rfl rfl
  | chkcal =>
    obtain ⟨_, -, h⟩ := need_next h
    obtain ⟨_, -, h⟩ := need_next h
    obtain ⟨_, -, h⟩ := need_next h
    obtain ⟨_, -, ⟨⟩⟩ := need_next h
    split
    · exact start.raise _ _ _
    · exact start.of_frame rfl rfl rfl
  | rdhum | rdtemp =>
    obtain ⟨-, ⟨⟩⟩ := onCells_next h
    exact start.dataPair (by simp [Cfg.pairBases]) fun w v hv => hv.of_frame rfl rfl rfl
  | cvhum | cvtc =>
    obtain ⟨_, -, h⟩ := need_next h
    obtain ⟨_, -, h⟩ := need_next h
    obtain ⟨_, -, h⟩ := need_next h
    obtain ⟨_, -, h⟩ := need_next h
    obtain ⟨_, -, h⟩ := need_next h
    obtain ⟨-, -, ⟨⟩⟩ := convertible_next h
    exact start.of_frame rfl rfl rfl
  | clamph | cvtf | satchk =>
    obtain ⟨_, -, ⟨⟩⟩ := need_next h
    exact start.of_frame rfl rfl rfl
  | htron =>
    obtain ⟨-, ⟨⟩⟩ := onCells_next h
    have begun : PortsKept s { s.setHs .heating with iter := s.iter + 1 } := start.of_frame rfl rfl rfl
    refine begun.heaterRmw fun failed v hv => ?_
    cases failed
    · exact hv.of_frame rfl rfl rfl
    · exact (hv.raise _ _ _).of_frame rfl rfl rfl
  | htroff =>
    obtain ⟨-, ⟨⟩⟩ := onCells_next h
    refine start.heaterRmw fun failed v hv => ?_
    cases failed
    · exact hv.of_frame rfl rfl rfl
    · exact (hv.of_frame rfl rfl rfl : PortsKept s ((v.setHtrUnsafe true).setHs .idle)).raise _ _ _
  | dwell =>
    obtain ⟨⟩ := h
    have loaded : PortsKept s (s.loadTimer s.cfg.dwellTicks) := start.of_frame rfl rfl rfl
    exact loaded.wait fun v hv => hv.of_frame rfl rfl rfl
  | retry =>
    obtain ⟨_, -, ⟨⟩⟩ := need_next h
    have unresolved : PortsKept s ((s.setSatUnres true).setHs .idle) := start.of_frame rfl rfl rfl
    split_ifs
    · exact start.of_frame rfl rfl rfl
    · exact (unresolved.raise _ _ _).of_frame rfl rfl rfl
    · exact start.of_frame rfl rfl rfl
  | emit =>
    obtain ⟨_, -, h⟩ := need_next h
    obtain ⟨_, -, h⟩ := need_next h
    obtain ⟨_, -, ⟨⟩⟩ := need_next h
    refine start.sinkRequest fun ok v hv => ?_
    cases ok
    · exact hv.raise _ _ _
    · exact hv.of_frame rfl rfl rfl
  | sleep =>
    obtain ⟨⟩ := h
    have loaded : PortsKept s (s.loadTimer s.cfg.cycleTicks) := start.of_frame rfl rfl rfl
    exact loaded.wait fun v hv => hv.of_frame rfl rfl rfl
  | halt =>
    obtain ⟨⟩ := h
    exact start.of_frame rfl rfl rfl

theorem step_portsKept {s t : State} (h : step s = .next t) : PortsKept s t := by
  have drawn : PortsKept s s.drawEvent := (PortsKept.refl s).of_frame rfl rfl rfl
  obtain ⟨-, ⟨-, rfl⟩ | ⟨-, -, rfl⟩ | ⟨-, -, -, i, -, run⟩⟩ := step_cases h
  · exact drawn.takeReset
  · exact drawn.takeTerm
  · obtain ⟨cfg, dev, trace⟩ := exec_portsKept run
    exact ⟨cfg, dev, trace⟩

/-- Settles O45: a clause of what every step keeps at the ports. -/
theorem stepKeepsMemoryForm : Obligations.StepKeepsMemoryForm :=
  ⟨Memory.wf_reset, fun _ _ wf run => (step_portsKept run).dev wf⟩

/-- Settles O46: the other two clauses. -/
theorem stepIssuesOnlyLegalRequests : Obligations.StepIssuesOnlyLegalRequests :=
  fun _ _ run => ⟨(step_portsKept run).cfg, (step_portsKept run).trace⟩

end Sys2Proof.Machine

/-! SUPPORT. The invariant of 10_state R35 phase region by phase region: what it says in boot, in the cycle and in the halt, and that a step
from a state that meets it gives one that meets it. -/

namespace Sys2Proof.Machine

open Sys2Proof

/-! ### The invariant without its environment -/

/-- The heater state and the iteration count as the invariant ties them to the phase. -/
def State.heaterPart (s : State) : Bool := s.heaterTied && s.iterBounded && s.iterCounted

/-- What the invariant says of the block's own registers: all of it but the configuration's constraints and the device's cells. -/
def State.regInv (s : State) : Bool :=
  (romCode s.ph).isSome && s.heaterPart && s.flagsTied && s.freshCycle && s.loaded && s.sampled

theorem State.inv_iff (s : State) :
    s.inv = true ↔ s.cfg.ok = true ∧ Memory.wf s.env.dev = true ∧ s.regInv = true := by
  simp only [State.inv, State.regInv, State.heaterPart, Bool.and_eq_true]
  tauto

/-- The ephemeral registers hold no value. -/
def State.Blank (s : State) : Prop := s.raw = {} ∧ s.phy = {} ∧ s.hreg = none

/-- Configured, and running on a calibration that may be used. -/
def State.Calibrated (s : State) : Prop :=
  s.f.configured = true ∧ s.f.calValid = true ∧ s.f.halted = false ∧ s.cal.usable = true

@[simp] theorem imp_eq_true (a b : Bool) : imp a b = true ↔ (a = true → b = true) := by
  cases a <;> simp [imp]

theorem boot_phase : ∀ ph : Byte, inBoot ph = true → (romCode ph).isSome = true := by decide +kernel

theorem cycle_phase : ∀ ph : Byte, inCycle ph = true → (romCode ph).isSome = true := by decide +kernel

/-! ### The heater part -/

theorem hsAt_outside : ∀ ph : Byte, ph.toNat ≤ 0x13 ∨ 0x18 < ph.toNat → hsAt ph = .idle := by decide +kernel

theorem hsAt_inside : ∀ ph : Byte, 0x13 < ph.toNat → ph.toNat ≤ 0x18 → hsAt ph ≠ .idle := by decide +kernel

/-- R130 with the two states of log 17, R35 (d), and what ties the count to the heater state. -/
theorem State.heaterPart_iff (s : State) :
    s.heaterPart = true ↔
      (s.hs = hsAt s.ph ∨ s.ph = 0x13 ∧ (s.hs = .cooldown ∨ s.f.term = true ∧ s.hs = .heating)) ∧
      (s.iter.toNat ≤ s.cfg.heaterMaxIter ∧ (s.f.term = false → s.ph = 0x13 → s.iter.toNat < s.cfg.heaterMaxIter)) ∧
      (0x13 ≤ s.ph.toNat ∧ s.ph.toNat ≤ 0x18 → (s.iter = 0 ↔ s.hs = .idle)) := by
  simp only [State.heaterPart, State.heaterTied, State.iterBounded, State.iterCounted, imp_eq_true, Bool.and_eq_true, Bool.or_eq_true,
    Bool.not_eq_true', decide_eq_true_eq, beq_iff_eq, decide_eq_decide]
  tauto

/-- Outside an intervention the heater is idle, and the count within its bound. -/
theorem State.heaterPart_outside {s : State} (hp : s.ph.toNat < 0x13 ∨ 0x18 < s.ph.toNat) :
    s.heaterPart = true ↔ s.hs = .idle ∧ s.iter.toNat ≤ s.cfg.heaterMaxIter := by
  have ne : s.ph ≠ 0x13 := fun eq => by simp [eq] at hp
  have out : ¬ (0x13 ≤ s.ph.toNat ∧ s.ph.toNat ≤ 0x18) := by omega
  simp only [s.heaterPart_iff, hsAt_outside s.ph (by omega), ne, out, false_and, or_false, false_implies, implies_true, and_true]

/-- After `HTRON` and to the end of the intervention the heater state is that of the phase, and an iteration was begun. -/
theorem State.heaterPart_inside {s : State} (hlo : 0x13 < s.ph.toNat) (hhi : s.ph.toNat ≤ 0x18) :
    s.heaterPart = true ↔ s.hs = hsAt s.ph ∧ s.iter.toNat ≤ s.cfg.heaterMaxIter ∧ s.iter ≠ 0 := by
  have ne : s.ph ≠ 0x13 := fun eq => by simp [eq] at hlo
  simp only [s.heaterPart_iff, ne, hlo.le, hhi, false_and, or_false, false_implies, implies_true, and_true, true_implies]
  exact and_congr_right fun hs => and_congr_right fun _ => by simp [hs, hsAt_inside s.ph hlo hhi]

/-- At the phase of `HTRON` a live block is idle before the first iteration or in cooldown after it, with one left; a terminated one may be
heating already (log 17). -/
theorem State.heaterPart_htron {s : State} (hp : s.ph = 0x13) :
    s.heaterPart = true ↔
      (s.hs = .idle ∨ s.hs = .cooldown ∨ s.f.term = true ∧ s.hs = .heating) ∧
      (s.iter.toNat ≤ s.cfg.heaterMaxIter ∧ (s.f.term = false → s.iter.toNat < s.cfg.heaterMaxIter)) ∧
      (s.iter = 0 ↔ s.hs = .idle) := by
  simp [s.heaterPart_iff, hp, hsAt]

/-! ### The regions -/

/-- Before the first sample of a cycle and after its last use the invariant asks for no sample. -/
theorem State.sampled_outside {s : State} (hp : s.ph.toNat ≤ 0x10 ∨ 0x1E ≤ s.ph.toNat) : s.sampled = true := by
  have ne {p : Byte} (hlo : 0x11 ≤ p.toNat) (hhi : p.toNat ≤ 0x1D) : s.ph ≠ p := by rintro rfl; omega
  simp [State.sampled, ne]
  intro _ _
  omega

theorem State.flagsTied_iff (s : State) :
    s.flagsTied = true ↔
      (s.f.calValid = true → s.cal.usable = true) ∧ (inCycle s.ph = true → s.f.configured = true ∧ s.f.calValid = true) ∧
      (s.f.halted = true → s.ph = 0x3F) ∧ (inBoot s.ph = true ∨ s.ph = 0x3F → s.f.calValid = false) ∧
      (inBoot s.ph = true → s.f.configured = decide (0x02 ≤ s.ph.toNat)) := by
  simp only [State.flagsTied, imp_eq_true, Bool.and_eq_true, Bool.or_eq_true, Bool.not_eq_true', decide_eq_true_eq, beq_iff_eq, and_assoc]

theorem State.freshCycle_iff (s : State) : s.freshCycle = true ↔ (s.ph.toNat ≤ 0x10 ∨ s.ph = 0x3F → s.Blank) := by
  simp [State.freshCycle, State.Blank, and_assoc]

/-- In the cycle and beyond nothing is being loaded any more. -/
theorem State.loaded_after_boot {s : State} (hp : 0x0C < s.ph.toNat) :
    s.loaded = true ↔ (s.ph = 0x3F → s.cal = {} ∧ s.lat = {}) := by
  have notBoot : inBoot s.ph = false := by simp [inBoot, hp]
  have late : ¬ s.ph.toNat ≤ 0x02 := by omega
  simp [State.loaded, notBoot, late]

theorem State.empty_before_load {s : State} (hp : s.ph.toNat ≤ 0x02) (h : s.loaded = true) : s.cal = {} ∧ s.lat = {} := by
  simp only [State.loaded, Bool.and_eq_true, and_assoc] at h
  obtain ⟨empty, -⟩ := h
  simpa [hp] using empty

theorem State.regInv_boot {s : State} (hp : inBoot s.ph = true) :
    s.regInv = true ↔ (s.hs = .idle ∧ s.iter.toNat ≤ s.cfg.heaterMaxIter) ∧
      (s.f.configured = decide (0x02 ≤ s.ph.toNat) ∧ s.f.calValid = false ∧ s.f.halted = false) ∧ s.Blank ∧ s.loaded = true := by
  have le : s.ph.toNat ≤ 0x0C := by simpa [inBoot] using hp
  have ne : s.ph ≠ 0x3F := fun eq => by simp [eq] at le
  have notCycle : inCycle s.ph ≠ true := by simp [inCycle]; omega
  have flags : s.flagsTied = true ↔ s.f.configured = decide (0x02 ≤ s.ph.toNat) ∧ s.f.calValid = false ∧ s.f.halted = false := by
    simp only [s.flagsTied_iff, hp, ne, notCycle]
    cases s.f.calValid <;> cases s.f.halted <;> simp
  have blank : s.freshCycle = true ↔ s.Blank := by simp [s.freshCycle_iff, le.trans]
  simp only [State.regInv, boot_phase s.ph hp, s.heaterPart_outside (by omega), flags, blank, s.sampled_outside (by omega),
    Bool.and_eq_true, and_assoc, and_true, true_and]

theorem State.regInv_cycle {s : State} (hp : inCycle s.ph = true) :
    s.regInv = true ↔ s.heaterPart = true ∧ s.Calibrated ∧ (s.ph = 0x10 → s.Blank) ∧ s.sampled = true := by
  have range : 0x10 ≤ s.ph.toNat ∧ s.ph.toNat ≤ 0x1E := by simpa [inCycle] using hp
  have ne : s.ph ≠ 0x3F := fun eq => by simp [eq] at range
  have notBoot : inBoot s.ph ≠ true := by simp [inBoot]; omega
  have start : s.ph.toNat ≤ 0x10 ↔ s.ph = 0x10 := by rw [BitVec.toNat_eq]; simp; omega
  have flags : s.flagsTied = true ↔ s.Calibrated := by
    simp only [s.flagsTied_iff, State.Calibrated, hp, notBoot, ne, true_implies, imp_false, Bool.not_eq_true]
    tauto
  have fresh : s.freshCycle = true ↔ (s.ph = 0x10 → s.Blank) := by simp only [s.freshCycle_iff, start, ne, or_false]
  have loaded : s.loaded = true := (s.loaded_after_boot (by omega)).2 fun eq => absurd eq ne
  simp only [State.regInv, cycle_phase s.ph hp, flags, fresh, loaded, Bool.and_eq_true, and_assoc, and_true, true_and]

theorem State.regInv_halt {s : State} (hp : s.ph = 0x3F) :
    s.regInv = true ↔ (s.hs = .idle ∧ s.iter.toNat ≤ s.cfg.heaterMaxIter) ∧ s.f.calValid = false ∧ s.Blank ∧ s.cal = {} ∧ s.lat = {} := by
  have beyond : 0x1E ≤ s.ph.toNat := by rw [hp]; decide
  have flags : s.flagsTied = true ↔ s.f.calValid = false := by
    simp [s.flagsTied_iff, hp, inBoot, inCycle]
    cases s.f.calValid <;> simp
  have fresh : s.freshCycle = true ↔ s.Blank := by simp only [s.freshCycle_iff, hp, or_true, true_implies]
  have loaded : s.loaded = true ↔ s.cal = {} ∧ s.lat = {} := by rw [s.loaded_after_boot (by omega)]; simp [hp]
  have legal : (romCode s.ph).isSome = true := by rw [hp]; decide
  simp only [State.regInv, legal, s.heaterPart_outside (by omega), flags, fresh, loaded, s.sampled_outside (.inr beyond),
    Bool.and_eq_true, and_assoc, and_true, true_and]

theorem State.iter_le_of_heaterPart {s : State} (h : s.heaterPart = true) : s.iter.toNat ≤ s.cfg.heaterMaxIter :=
  (s.heaterPart_iff.1 h).2.1.1

/-! ### The shared operations -/

theorem State.regInv_takeReset (s : State) : s.takeReset.regInv = true :=
  (State.regInv_boot rfl).2 ⟨⟨rfl, Nat.zero_le _⟩, ⟨rfl, rfl, rfl⟩, ⟨rfl, rfl, rfl⟩, rfl⟩

theorem State.heaterPart_takeTerm {s : State} (h : s.heaterPart = true) : s.takeTerm.heaterPart = true := by
  obtain ⟨tied, ⟨bound, -⟩, counted⟩ := s.heaterPart_iff.1 h
  refine s.takeTerm.heaterPart_iff.2 ⟨?_, ⟨bound, fun live => Bool.noConfusion live⟩, counted⟩
  exact tied.imp_right (And.imp_right (Or.imp_right (And.imp_left fun _ => rfl)))

/-- `TERM` in a state of the invariant. -/
theorem State.regInv_takeTerm {s : State} (h : s.regInv = true) : s.takeTerm.regInv = true := by
  simp only [State.regInv, Bool.and_eq_true] at h ⊢
  obtain ⟨⟨⟨⟨⟨legal, heater⟩, flags⟩, fresh⟩, loaded⟩, sampled⟩ := h
  exact ⟨⟨⟨⟨⟨legal, s.heaterPart_takeTerm heater⟩, flags⟩, fresh⟩, loaded⟩, sampled⟩

/-- A startup entry: the block as in boot, halted with nothing loaded. -/
theorem State.regInv_startup {s : State} {e : ErrKind} {addr : Byte} {rw : Bool} (he : e.cls = .startup)
    (hs : s.regInv = true) (hp : inBoot s.ph = true) (empty : e = .configurationError → s.ph.toNat ≤ 0x02) :
    (s.raise e addr rw).regInv = true := by
  obtain ⟨heater, ⟨-, valid, -⟩, blank, loaded⟩ := (State.regInv_boot hp).1 hs
  rw [State.raise_startup _ _ _ _ he]
  cases e with
  | configurationError =>
    exact (State.regInv_halt rfl).2 ⟨heater, valid, blank, State.empty_before_load (s := s) (empty rfl) loaded⟩
  | calibrationError | conversionDomainError => exact (State.regInv_halt rfl).2 ⟨heater, valid, blank, rfl, rfl⟩
  | _ => cases he

/-- A cycle-abort entry: the block idle before its sleep. -/
theorem State.regInv_cycleAbort {s : State} {e : ErrKind} {addr : Byte} {rw : Bool} (he : e.cls = .cycleAbort)
    (calibrated : s.Calibrated) (bound : s.iter.toNat ≤ s.cfg.heaterMaxIter) : (s.raise e addr rw).regInv = true := by
  rw [State.raise_cycleAbort _ _ _ _ he]
  exact (State.regInv_cycle rfl).2 ⟨(State.heaterPart_outside (.inr (by simp [State.cycleAbortEntry]))).2 ⟨rfl, bound⟩, calibrated,
    fun start => absurd start (by simp [State.cycleAbortEntry]), State.sampled_outside (.inr (by simp [State.cycleAbortEntry]))⟩

/-- The invariant of the registers does not speak of the environment, the trace or the timer. -/
theorem State.regInv_ports {s : State} (h : s.regInv = true) (env : Env) (trace : List Event) (tmr : Nat) :
    ({ s with env := env, trace := trace, tmr := tmr } : State).regInv = true := h

/-- A transaction from a state that meets the invariant, or will after `TERM`, whose registers its continuation finds unchanged. -/
theorem State.regInv_transact {α : Type} {s : State} {carry : BusAnswer → Memory → α × Memory} {event : α → Event}
    {k : α → State → State} (term : s.takeTerm.regInv = true)
    (next : ∀ r env trace, (k r { s with env := env, trace := trace }).regInv = true) : (s.transact carry event k).regInv = true := by
  refine State.transact_ind (P := fun t => t.regInv = true) (fun _ => State.regInv_ports term _ _ _)
    (fun _ => State.regInv_takeReset _) (fun _ _ => State.regInv_ports term _ _ _) (fun _ _ => State.regInv_takeReset _) (fun _ _ => ?_)
  exact next (s.replyOf carry) (s.carried carry event).env (s.carried carry event).trace

theorem State.regInv_sinkRequest {s : State} {text : List Byte} {k : Bool → State → State} (term : s.takeTerm.regInv = true)
    (next : ∀ ok env trace, (k ok { s with env := env, trace := trace }).regInv = true) : (s.sinkRequest text k).regInv = true := by
  refine State.sinkRequest_ind (P := fun t => t.regInv = true) (fun _ => State.regInv_ports term _ _ _) (fun _ => State.regInv_takeReset _) ?_
  rintro u rfl
  exact ⟨fun _ => State.regInv_ports term _ _ _, fun _ => State.regInv_takeReset _, fun _ => next _ _ _⟩

theorem State.regInv_wait {s : State} {k : State → State} (term : s.takeTerm.regInv = true)
    (next : ∀ env trace, (k { s with env := env, trace := trace, tmr := 0 }).regInv = true) : (s.wait k).regInv = true :=
  State.wait_ind (P := fun t => t.regInv = true) (fun _ _ => State.regInv_ports term _ _ _)
    (fun _ _ => State.regInv_takeReset _) (next _ _)

/-! ### The access forms of the ops -/

theorem State.regInv_configWrite {s : State} {a v : Byte} {k : State → State} (hs : s.regInv = true) (hp : s.ph.toNat ≤ 0x02)
    (next : ∀ env trace, (k { s with env := env, trace := trace }).regInv = true) : (s.configWrite a v k).regInv = true := by
  refine State.regInv_transact (s.regInv_takeTerm hs) fun ok env trace => ?_
  cases ok
  · exact State.regInv_startup rfl hs (by simp [inBoot]; omega) fun _ => hp
  · exact next env trace

theorem State.regInv_calByte {s : State} {a : Byte} {k : Byte → State → State} (hs : s.regInv = true) (hp : inBoot s.ph = true)
    (next : ∀ b env trace, (k b { s with env := env, trace := trace }).regInv = true) : (s.calByte a k).regInv = true := by
  refine State.regInv_transact (s.regInv_takeTerm hs) fun r env trace => ?_
  cases r
  · exact State.regInv_startup rfl hs hp nofun
  · exact next _ env trace

theorem State.regInv_calPair {s : State} {a : Byte} {k : Word → State → State} (hs : s.regInv = true) (hp : inBoot s.ph = true)
    (next : ∀ w env trace, (k w { s with env := env, trace := trace }).regInv = true) : (s.calPair a k).regInv = true := by
  refine State.regInv_transact (s.regInv_takeTerm hs) fun r env trace => ?_
  cases r
  · exact State.regInv_startup rfl hs hp nofun
  · exact next _ env trace

theorem State.regInv_dataPair {s : State} {a : Byte} {k : Word → State → State} (hs : s.regInv = true) (hp : inCycle s.ph = true)
    (next : ∀ w env trace, (k w { s with env := env, trace := trace }).regInv = true) : (s.dataPair a k).regInv = true := by
  obtain ⟨heater, calibrated, -⟩ := (State.regInv_cycle hp).1 hs
  refine State.regInv_transact (s.regInv_takeTerm hs) fun r env trace => ?_
  cases r
  · exact State.regInv_cycleAbort rfl calibrated (s.iter_le_of_heaterPart heater)
  · exact next _ env trace

/-- The read latches `HREG` before the write, so a `TERM` may find it with or without the byte. -/
theorem State.regInv_heaterRmw {s : State} {change : Byte → Byte} {done : Option Bool → State → State}
    (term : ∀ hreg, { s.takeTerm with hreg := hreg }.regInv = true)
    (next : ∀ failed hreg env trace, (done failed { s with hreg := hreg, env := env, trace := trace }).regInv = true) :
    (s.heaterRmw change done).regInv = true := by
  refine State.regInv_transact (term s.hreg) fun r env trace => ?_
  cases r with
  | none => exact next _ s.hreg env trace
  | some b => exact State.regInv_transact (term (some b)) fun ok env trace => next _ (some b) env trace

/-! ### The ops of the boot -/

section Boot

variable {s t : State} (hs : s.regInv = true)
include hs

theorem regInv_execCfgav (hp : s.ph = 0x00) (h : execCfgav s = .next t) : t.regInv = true := by
  obtain ⟨-, ⟨⟩⟩ := onCells_next h
  obtain ⟨heater, ⟨configured, off⟩, blank, loaded⟩ := (State.regInv_boot (by rw [hp]; rfl)).1 hs
  refine State.regInv_configWrite hs (by rw [hp]; decide) fun env trace => (State.regInv_boot rfl).2 ⟨heater, ⟨?_, off⟩, blank, ?_⟩
  · simpa [hp] using configured
  · simpa [State.loaded, hp, inBoot] using loaded

theorem regInv_execCfgctl (hp : s.ph = 0x01) (h : execCfgctl s = .next t) : t.regInv = true := by
  obtain ⟨-, ⟨⟩⟩ := onCells_next h
  obtain ⟨heater, ⟨-, off⟩, blank, loaded⟩ := (State.regInv_boot (by rw [hp]; rfl)).1 hs
  refine State.regInv_configWrite hs (by rw [hp]; decide) fun env trace => (State.regInv_boot rfl).2 ⟨heater, ⟨rfl, off⟩, blank, ?_⟩
  simpa [State.loaded, hp, inBoot] using loaded

/-- A load of a calibration register or latch goes on to a later phase of the load. -/
theorem regInv_load {cal : CalFile} {lat : Latches} {p : Byte} {env : Env} {trace : List Event} (hp : inBoot s.ph = true ∧ 0x02 ≤ s.ph.toNat)
    (hq : inBoot p = true ∧ 0x02 ≤ p.toNat)
    (load : s.loaded = true → ({ s with cal := cal, lat := lat, ph := p } : State).loaded = true) :
    ({ s with cal := cal, lat := lat, ph := p, env := env, trace := trace } : State).regInv = true := by
  obtain ⟨heater, ⟨configured, off⟩, blank, loaded⟩ := (State.regInv_boot hp.1).1 hs
  refine (State.regInv_boot hq.1).2 ⟨heater, ⟨?_, off⟩, blank, load loaded⟩
  simpa [hp.2, hq.2] using configured

theorem regInv_execUnpkt (hp : s.ph = 0x09) (h : execUnpkt s = .next t) : t.regInv = true := by
  obtain ⟨_, -, h⟩ := need_next h
  obtain ⟨_, -, h⟩ := need_next h
  obtain ⟨_, -, ⟨⟩⟩ := need_next h
  exact regInv_load hs (by rw [hp]; decide) (by decide) fun old => by simp_all [State.loaded, inBoot]

/-- The calibration that `CHKCAL` finds loaded and accepts may be used. -/
theorem regInv_execChkcal (hp : s.ph = 0x0C) (h : execChkcal s = .next t) : t.regInv = true := by
  obtain ⟨h3, eq3, h⟩ := need_next h
  obtain ⟨h2, eq2, h⟩ := need_next h
  obtain ⟨t3, eqt3, h⟩ := need_next h
  obtain ⟨t2, eqt2, ⟨⟩⟩ := need_next h
  have boot : inBoot s.ph = true := by rw [hp]; rfl
  obtain ⟨heater, ⟨configured, -, running⟩, blank, loaded⟩ := (State.regInv_boot boot).1 hs
  split_ifs with zero
  · exact State.regInv_startup rfl hs boot nofun
  · refine (State.regInv_cycle rfl).2 ⟨(State.heaterPart_outside (by simp)).2 heater, ⟨?_, rfl, running, ?_⟩, fun _ => blank,
      State.sampled_outside (by simp)⟩
    · simpa [hp] using configured
    · simp_all [State.loaded, inBoot, CalFile.usable, denominatorZero, State.setCalValid]

end Boot

/-! ### The ops of the cycle -/

section Cycle

variable {s t : State} (hs : s.regInv = true)
include hs

/-- From one phase of the cycle to a later one, with the calibration and the flags that go with it untouched. -/
theorem regInv_within_cycle (hp : inCycle s.ph = true) (hq : inCycle t.ph = true ∧ t.ph ≠ 0x10) (calibrated : s.Calibrated → t.Calibrated)
    (heater : s.heaterPart = true → t.heaterPart = true) (sampled : s.sampled = true → t.sampled = true) : t.regInv = true := by
  obtain ⟨heaterS, calibratedS, -, sampledS⟩ := (State.regInv_cycle hp).1 hs
  exact (State.regInv_cycle hq.1).2 ⟨heater heaterS, calibrated calibratedS, fun start => absurd start hq.2, sampled sampledS⟩

theorem regInv_execRdhum (hp : s.ph = 0x10 ∨ s.ph = 0x16) (h : execRdhum s = .next t) : t.regInv = true := by
  obtain ⟨-, ⟨⟩⟩ := onCells_next h
  rcases hp with hp | hp <;>
  · have cycle : inCycle s.ph = true := by rw [hp]; rfl
    refine State.regInv_dataPair hs cycle fun w env trace =>
      regInv_within_cycle hs cycle (by simp [hp, inCycle]) id (fun old => ?_) (fun _ => ?_)
    · simpa [State.heaterPart_iff, hp, hsAt] using old
    · simp [State.sampled, hp]

theorem regInv_execCvhum (hp : s.ph = 0x11 ∨ s.ph = 0x17) (h : execCvhum s = .next t) : t.regInv = true := by
  obtain ⟨_, -, h⟩ := need_next h
  obtain ⟨_, -, h⟩ := need_next h
  obtain ⟨_, -, h⟩ := need_next h
  obtain ⟨_, -, h⟩ := need_next h
  obtain ⟨_, -, h⟩ := need_next h
  obtain ⟨-, -, ⟨⟩⟩ := convertible_next h
  rcases hp with hp | hp <;>
  · refine regInv_within_cycle hs (by rw [hp]; rfl) (by simp [hp, inCycle]) id (fun old => ?_) (fun _ => ?_)
    · simpa [State.heaterPart_iff, hp, hsAt] using old
    · simp [State.sampled, hp]

theorem regInv_execSatchk (ok : s.cfg.ok = true) (hp : s.ph = 0x12) (h : execSatchk s = .next t) : t.regInv = true := by
  obtain ⟨u, eq, ⟨⟩⟩ := need_next h
  have positive := (Cfg.iter_bounds ok).1
  have idle (old : s.heaterPart = true) : s.hs = .idle := ((State.heaterPart_outside (by rw [hp]; decide)).1 old).1
  have cycle : inCycle s.ph = true := by rw [hp]; rfl
  split_ifs
  · refine regInv_within_cycle hs cycle (by simp [inCycle]) id (fun old => ?_) (fun _ => by simp [State.sampled])
    exact (State.heaterPart_htron rfl).2 ⟨.inl (idle old), ⟨Nat.zero_le _, fun _ => positive⟩, by simp [State.setSatUnres, idle old]⟩
  · refine regInv_within_cycle hs cycle (by simp [inCycle]) id (fun old => ?_) (fun _ => ?_)
    · exact (State.heaterPart_outside (by simp)).2 ⟨idle old, Nat.zero_le _⟩
    · simp [State.sampled, State.setSatUnres, eq]

/-- The count `HTRON` begins with is below the bound, so one more neither passes it nor wraps to 0. -/
theorem regInv_execHtron (ok : s.cfg.ok = true) (live : s.f.term = false) (hp : s.ph = 0x13) (h : execHtron s = .next t) :
    t.regInv = true := by
  obtain ⟨-, ⟨⟩⟩ := onCells_next h
  have cycle : inCycle s.ph = true := by rw [hp]; rfl
  obtain ⟨heater, -⟩ := (State.regInv_cycle cycle).1 hs
  obtain ⟨-, ⟨-, left⟩, -⟩ := (State.heaterPart_htron hp).1 heater
  have room : s.iter.toNat < s.cfg.heaterMaxIter := left live
  have counted : (s.iter + 1).toNat = s.iter.toNat + 1 :=
    BitVec.toNat_add_of_lt (by have := (Cfg.iter_bounds ok).2; simp; omega)
  have begun : s.iter + 1 ≠ 0 := fun wrapped => by rw [wrapped] at counted; simp at counted
  have within : (s.iter + 1).toNat ≤ s.cfg.heaterMaxIter := by omega
  refine State.regInv_heaterRmw (fun hreg => ?_) fun failed hreg env trace => ?_
  · refine regInv_within_cycle hs cycle (by simp [hp, inCycle]) id (fun _ => ?_) (fun _ => by simp [State.sampled, hp])
    exact (State.heaterPart_htron (by exact hp)).2 ⟨.inr (.inr ⟨rfl, rfl⟩), ⟨within, nofun⟩, iff_of_false begun nofun⟩
  · cases failed <;>
    exact regInv_within_cycle hs cycle (by simp [inCycle]) id
      (fun _ => (State.heaterPart_inside (by simp) (by simp)).2 ⟨rfl, within, begun⟩) (fun _ => by simp [State.sampled])

theorem regInv_execDwell (hp : s.ph = 0x14) (h : execDwell s = .next t) : t.regInv = true := by
  obtain ⟨⟩ := h
  refine State.regInv_wait (State.regInv_takeTerm hs) fun env trace =>
    regInv_within_cycle hs (by rw [hp]; rfl) (by simp [inCycle]) id (fun old => ?_) (fun _ => by simp [State.sampled])
  simpa [State.heaterPart_iff, hp, hsAt] using old

theorem regInv_execHtroff (hp : s.ph = 0x15) (h : execHtroff s = .next t) : t.regInv = true := by
  obtain ⟨-, ⟨⟩⟩ := onCells_next h
  have cycle : inCycle s.ph = true := by rw [hp]; rfl
  obtain ⟨heater, calibrated, -⟩ := (State.regInv_cycle cycle).1 hs
  obtain ⟨-, bound, begun⟩ := (State.heaterPart_inside (by rw [hp]; decide) (by rw [hp]; decide)).1 heater
  refine State.regInv_heaterRmw (fun hreg => ?_) fun failed hreg env trace => ?_
  · exact regInv_within_cycle hs cycle (by simp [hp, inCycle]) id State.heaterPart_takeTerm (fun _ => by simp [State.sampled, hp])
  · cases failed with
    | none =>
      exact regInv_within_cycle hs cycle (by simp [inCycle]) id
        (fun _ => (State.heaterPart_inside (by simp) (by simp)).2 ⟨rfl, bound, begun⟩) (fun _ => by simp [State.sampled])
    | some rw => exact State.regInv_cycleAbort rfl calibrated bound

/-- When `RETRY` loops an iteration is left; `HS` stays `Cooldown` (log 17). -/
theorem regInv_execRetry (hp : s.ph = 0x18) (h : execRetry s = .next t) : t.regInv = true := by
  obtain ⟨u, eq, ⟨⟩⟩ := need_next h
  have cycle : inCycle s.ph = true := by rw [hp]; rfl
  obtain ⟨heater, -⟩ := (State.regInv_cycle cycle).1 hs
  obtain ⟨cooling, bound, begun⟩ := (State.heaterPart_inside (by rw [hp]; decide) (by rw [hp]; decide)).1 heater
  have cooldown : s.hs = .cooldown := by simpa [hp, hsAt] using cooling
  have ended {v : State} (hv : v.ph = 0x19) (idle : v.hs = .idle) (iter : v.iter = s.iter) (cfg : v.cfg = s.cfg)
      (phy : v.phy = s.phy) (calibrated : s.Calibrated → v.Calibrated) : v.regInv = true :=
    regInv_within_cycle hs cycle (by rw [hv]; decide) calibrated
      (fun _ => (State.heaterPart_outside (by rw [hv]; decide)).2 ⟨idle, by rwa [iter, cfg]⟩)
      (fun _ => by simp [State.sampled, hv, phy, eq])
  split_ifs with above left
  · refine regInv_within_cycle hs cycle (by simp [inCycle]) id (fun _ => ?_) (fun _ => by simp [State.sampled])
    exact (State.heaterPart_htron rfl).2 ⟨.inr (.inl cooldown), ⟨bound, fun _ => left⟩, iff_of_false begun (by simp [cooldown])⟩
  · exact ended rfl rfl rfl rfl rfl id
  · exact ended rfl rfl rfl rfl rfl id

theorem regInv_execClamph (hp : s.ph = 0x19) (h : execClamph s = .next t) : t.regInv = true := by
  obtain ⟨_, -, ⟨⟩⟩ := need_next h
  refine regInv_within_cycle hs (by rw [hp]; rfl) (by simp [inCycle]) id (fun old => ?_) (fun _ => by simp [State.sampled])
  simpa [State.heaterPart_iff, hp, hsAt] using old

theorem regInv_execRdtemp (hp : s.ph = 0x1A) (h : execRdtemp s = .next t) : t.regInv = true := by
  obtain ⟨-, ⟨⟩⟩ := onCells_next h
  have cycle : inCycle s.ph = true := by rw [hp]; rfl
  refine State.regInv_dataPair hs cycle fun w env trace =>
    regInv_within_cycle hs cycle (by simp [inCycle]) id (fun old => ?_) (fun old => ?_)
  · simpa [State.heaterPart_iff, hp, hsAt] using old
  · simpa [State.sampled, hp] using old

theorem regInv_execCvtc (hp : s.ph = 0x1B) (h : execCvtc s = .next t) : t.regInv = true := by
  obtain ⟨_, -, h⟩ := need_next h
  obtain ⟨_, -, h⟩ := need_next h
  obtain ⟨_, -, h⟩ := need_next h
  obtain ⟨_, -, h⟩ := need_next h
  obtain ⟨_, -, h⟩ := need_next h
  obtain ⟨-, -, ⟨⟩⟩ := convertible_next h
  refine regInv_within_cycle hs (by rw [hp]; rfl) (by simp [inCycle]) id (fun old => ?_) (fun old => ?_)
  · simpa [State.heaterPart_iff, hp, hsAt] using old
  · have clamped : s.phy.humR.isSome = true ∧ s.raw.temp.isSome = true := by simpa [State.sampled, hp] using old
    simp [State.sampled, clamped.1]

theorem regInv_execCvtf (hp : s.ph = 0x1C) (h : execCvtf s = .next t) : t.regInv = true := by
  obtain ⟨_, -, ⟨⟩⟩ := need_next h
  refine regInv_within_cycle hs (by rw [hp]; rfl) (by simp [inCycle]) id (fun old => ?_) (fun old => ?_)
  · simpa [State.heaterPart_iff, hp, hsAt] using old
  · simpa [State.sampled, hp] using old

theorem regInv_execEmit (hp : s.ph = 0x1D) (h : execEmit s = .next t) : t.regInv = true := by
  obtain ⟨_, -, h⟩ := need_next h
  obtain ⟨_, -, h⟩ := need_next h
  obtain ⟨_, -, ⟨⟩⟩ := need_next h
  have cycle : inCycle s.ph = true := by rw [hp]; rfl
  obtain ⟨heater, calibrated, -⟩ := (State.regInv_cycle cycle).1 hs
  refine State.regInv_sinkRequest (State.regInv_takeTerm hs) fun ok env trace => ?_
  cases ok
  · exact State.regInv_cycleAbort rfl calibrated (State.iter_le_of_heaterPart heater)
  · refine regInv_within_cycle hs cycle (by simp [inCycle]) id (fun old => ?_) (fun _ => by simp [State.sampled])
    simpa [State.heaterPart_iff, hp, hsAt] using old

/-- `SLEEP` ends in the one state of the cycle whose ephemeral registers must hold no value. -/
theorem regInv_execSleep (hp : s.ph = 0x1E) (h : execSleep s = .next t) : t.regInv = true := by
  obtain ⟨⟩ := h
  obtain ⟨heater, calibrated, -⟩ := (State.regInv_cycle (by rw [hp]; rfl)).1 hs
  have idle := (State.heaterPart_outside (by rw [hp]; decide)).1 heater
  exact State.regInv_wait (State.regInv_takeTerm hs) fun env trace => (State.regInv_cycle rfl).2
    ⟨(State.heaterPart_outside (by simp)).2 idle, calibrated, fun _ => ⟨rfl, rfl, rfl⟩, State.sampled_outside (by simp)⟩

theorem regInv_execHalt (hp : s.ph = 0x3F) (h : execHalt s = .next t) : t.regInv = true := by
  obtain ⟨⟩ := h
  exact (State.regInv_halt rfl).2 ((State.regInv_halt hp).1 hs)

end Cycle

/-! ### The step -/

/-- Every op but `RDHUM` and `CVHUM` stands at one phase. -/
theorem rom_phaseOf {ph : Byte} {i : Instr} (h : (ph, i) ∈ romTable) (hum : i ≠ .rdhum) (conv : i ≠ .cvhum) : ph = phaseOf i :=
  (by decide : ∀ p ∈ romTable, p.2 ≠ .rdhum → p.2 ≠ .cvhum → p.1 = phaseOf p.2) _ h hum conv

theorem regInv_exec {i : Instr} {s t : State} (hs : s.regInv = true) (ok : s.cfg.ok = true) (live : s.f.term = false)
    (stands : (s.ph, i) ∈ romTable) (h : exec i s = .next t) : t.regInv = true := by
  have hp := rom_phaseOf stands
  cases i with
  | cfgav => exact regInv_execCfgav hs (hp nofun nofun) h
  | cfgctl => exact regInv_execCfgctl hs (hp nofun nofun) h
  | ldh0 | ldh1 | ldt0l | ldt1l | ldtmsb =>
    have hp := hp nofun nofun
    obtain ⟨-, ⟨⟩⟩ := onCells_next h
    exact State.regInv_calByte hs (by rw [hp]; rfl) fun b env trace => regInv_load hs (by rw [hp]; decide) (by decide) fun old => by
      simp_all [State.loaded, inBoot, phaseOf]
  | ldh2 | ldh3 | ldt2 | ldt3 =>
    have hp := hp nofun nofun
    obtain ⟨-, ⟨⟩⟩ := onCells_next h
    exact State.regInv_calPair hs (by rw [hp]; rfl) fun w env trace => regInv_load hs (by rw [hp]; decide) (by decide) fun old => by
      simp_all [State.loaded, inBoot, phaseOf]
  | unpkt => exact regInv_execUnpkt hs (hp nofun nofun) h
  | chkcal => exact regInv_execChkcal hs (hp nofun nofun) h
  | rdhum => exact regInv_execRdhum hs (by simpa [romTable] using stands) h
  | cvhum => exact regInv_execCvhum hs (by simpa [romTable] using stands) h
  | clamph => exact regInv_execClamph hs (hp nofun nofun) h
  | rdtemp => exact regInv_execRdtemp hs (hp nofun nofun) h
  | cvtc => exact regInv_execCvtc hs (hp nofun nofun) h
  | cvtf => exact regInv_execCvtf hs (hp nofun nofun) h
  | satchk => exact regInv_execSatchk hs ok (hp nofun nofun) h
  | htron => exact regInv_execHtron hs ok live (hp nofun nofun) h
  | dwell => exact regInv_execDwell hs (hp nofun nofun) h
  | htroff => exact regInv_execHtroff hs (hp nofun nofun) h
  | retry => exact regInv_execRetry hs (hp nofun nofun) h
  | emit => exact regInv_execEmit hs (hp nofun nofun) h
  | sleep => exact regInv_execSleep hs (hp nofun nofun) h
  | halt => exact regInv_execHalt hs (hp nofun nofun) h

theorem step_regInv {s t : State} (hs : s.regInv = true) (h : step s = .next t) : t.regInv = true := by
  have drawn : s.drawEvent.regInv = true := hs
  obtain ⟨ok, ⟨-, rfl⟩ | ⟨-, -, rfl⟩ | ⟨-, live, -, i, stands, run⟩⟩ := step_cases h
  · exact State.regInv_takeReset _
  · exact State.regInv_takeTerm drawn
  · exact regInv_exec drawn ok live stands run

/-- Settles O40: the configuration and the cells' form by what every step keeps at the ports, the registers op by op. -/
theorem stepKeepsInvariant : Obligations.StepKeepsInvariant := by
  intro s t hs run
  obtain ⟨ok, wf, regs⟩ := s.inv_iff.1 hs
  have ports := step_portsKept run
  exact t.inv_iff.2 ⟨ports.cfg ▸ ok, ports.dev wf, step_regInv regs run⟩

/-- Settles O39: the register part holds whatever the configuration and the environment. -/
theorem resetMeetsInvariant : Obligations.ResetMeetsInvariant :=
  ⟨(State.inv_iff _).2 ⟨by decide, Memory.wf_reset, State.regInv_takeReset State.reset⟩,
    fun c e ok wf => (State.inv_iff _).2 ⟨ok, wf, State.regInv_takeReset { State.reset with cfg := c, env := e }⟩⟩

end Sys2Proof.Machine

/-! SUPPORT. The frame of the device's cells (20_memory R43, R47, R49, R53): what a transaction and an op
leave alone. -/

namespace Sys2Proof

/-- A calibration cell is a base other than the first three, the registers the block writes, or the high byte of a pair. -/
theorem Cfg.mem_calCells {c : Cfg} {a : Byte} (h : a ∈ c.calCells) : a ∈ c.bases.drop 3 ∨ ∃ b ∈ c.pairBases, a = b + 1 := by
  simp only [Cfg.calCells, Cfg.bases, Cfg.pairBases, List.drop_succ_cons, List.drop_zero, List.mem_cons, List.not_mem_nil, or_false,
    exists_eq_or_imp, exists_eq_left] at h ⊢
  tauto

/-- No calibration cell is one of the three registers the block writes. -/
theorem Cfg.calCell_not_written {c : Cfg} (ok : c.ok = true) {a : Byte} (h : a ∈ c.calCells) : a ∉ c.bases.take 3 := by
  intro written
  rcases Cfg.mem_calCells h with base | ⟨b, pair, rfl⟩
  · exact List.disjoint_take_drop (Cfg.bases_nodup ok) le_rfl written base
  · obtain ⟨-, -, fit, -⟩ := Cfg.ok_parts ok
    simp only [Cfg.pairsFit, List.all_eq_true, Bool.and_eq_true, Bool.not_eq_true', List.contains_eq_mem, decide_eq_false_iff_not] at fit
    exact (fit b pair).2 (List.mem_of_mem_take written)

end Sys2Proof

namespace Sys2Proof.Machine

open Sys2Proof

/-! ### The cells after one transaction -/

theorem writtenCells_of_took {an : BusAnswer} (h : an.took = true) (m : Memory) (a : Nat) (v : Byte) :
    writtenCells an m a v = Memory.write m a v := by simp [writtenCells, h]

theorem writtenCells_of_not_took {an : BusAnswer} (h : an.took = false) (m : Memory) (a : Nat) (v : Byte) :
    writtenCells an m a v = m := by simp [writtenCells, h]

/-- A write leaves every other cell alone, whether it takes effect or not. -/
theorem read_writtenCells_other (an : BusAnswer) (m : Memory) {a b : Nat} (v : Byte) (h : a ≠ b) :
    Memory.read (writtenCells an m a v) b = Memory.read m b := by
  cases took : an.took
  · rw [writtenCells_of_not_took took]
  · rw [writtenCells_of_took took, Memory.read_write_other m a b v h]

/-- Settles O51: by whether the environment lets the write take effect. -/
theorem writeTakesEffectUnderP2 : Obligations.WriteTakesEffectUnderP2 := by
  intro an m a v ha
  have stored (took : an.took = true) : Memory.read (writtenCells an m a v) a = some v := by
    rw [writtenCells_of_took took, Memory.read_write_same m a v ha]
  refine ⟨fun p2 ok => stored (p2 ok), ?_, fun b hb => read_writtenCells_other an m v hb.symm⟩
  cases took : an.took
  · exact .inr (writtenCells_of_not_took took m a v)
  · exact .inl (stored took)

/-- Settles O52: by the answer, and by the number of bytes it names. -/
theorem pairReadIsAllOrNothing : Obligations.PairReadIsAllOrNothing := by
  intro an m a
  refine ⟨fun err => ?_, fun ok cells => ?_, fun l ok named count => ?_, fun b0 b1 ok named => ?_⟩
  · simp [replyPair, err]
  · simp [replyPair, ok, cells]
  · match l, count with
    | [], _ | [_], _ | _ :: _ :: _ :: _, _ => simp [replyPair, ok, named]
    | [_, _], count => exact absurd rfl count
  · simp [replyPair, ok, named]

/-! ### One cell kept from state to state -/

/-- What the environment changes at a transaction leaves cell `a` alone. -/
def Spares (an : BusAnswer) (a : Nat) : Prop := ∀ p ∈ changes an, p.1 ≠ a

theorem Spares.pokes {an : BusAnswer} {a : Nat} (h : Spares an a) : ∀ p ∈ an.pokes, p.1 ≠ a :=
  fun p hp => h p (List.mem_append_left _ hp)

theorem Spares.effects {an : BusAnswer} {a : Nat} (h : Spares an a) : ∀ p ∈ an.effects, p.1 ≠ a :=
  fun p hp => h p (List.mem_append_right _ hp)

/-- From `s` to `t` the device's cell `a` reads as before. -/
def KeepsCell (a : Nat) (s t : State) : Prop := Memory.read t.env.dev a = Memory.read s.env.dev a

section

variable {a : Nat} {s u : State}

theorem KeepsCell.of_dev {t : State} (h : KeepsCell a s u) (dev : t.env.dev = u.env.dev) : KeepsCell a s t :=
  (congrArg (Memory.read · a) dev).trans h

theorem KeepsCell.raise (h : KeepsCell a s u) (e : ErrKind) (addr : Byte) (rw : Bool) : KeepsCell a s (u.raise e addr rw) := by
  obtain ⟨-, -, -, -, -, -, -, env⟩ := u.raise_frame e addr rw
  exact h.of_dev (congrArg Env.dev env)

/-- A transaction keeps the cell if the environment spares it and the transaction itself does. It goes on only if neither `TERM` nor
`RESET` comes around it, with the configuration as before and the second bus answer next. -/
theorem KeepsCell.transact {α : Type} {carry : BusAnswer → Memory → α × Memory} {event : α → Event} {k : α → State → State}
    (h : KeepsCell a s u) (spared : Spares u.nextBus a)
    (carried : ∀ m, Memory.read (carry u.nextBus m).2 a = Memory.read m a)
    (next : ∀ v, busQuiet u.nextBus = true → v.cfg = u.cfg → v.nextBus = u.secondBus → KeepsCell a s v →
      KeepsCell a s (k (u.replyOf carry) v)) : KeepsCell a s (u.transact carry event k) := by
  have drawn : KeepsCell a s u.drawBus := h.of_dev rfl
  have answered : KeepsCell a s (u.carried carry event) :=
    (carried _).trans ((Memory.read_writeAll_other _ _ a spared.pokes).trans h)
  exact State.transact_ind (fun _ => drawn.of_dev rfl) (fun _ => drawn.of_dev rfl) (fun _ _ => answered.of_dev rfl)
    (fun _ _ => answered.of_dev rfl) (fun hb ha => next _ ((busQuiet_iff _).2 ⟨hb, ha⟩) rfl rfl answered)

theorem KeepsCell.memRead1 {b : Byte} {k : Option Byte → State → State} (h : KeepsCell a s u) (spared : Spares u.nextBus a)
    (next : ∀ v, busQuiet u.nextBus = true → v.cfg = u.cfg → v.nextBus = u.secondBus → KeepsCell a s v →
      KeepsCell a s (k (replyByte u.nextBus u.cells b.toNat) v)) : KeepsCell a s (u.memRead1 b k) :=
  h.transact spared (fun m => read_readCells_other _ m a spared.effects) next

theorem KeepsCell.memRead2 {b : Byte} {k : Option Word → State → State} (h : KeepsCell a s u) (spared : Spares u.nextBus a)
    (next : ∀ r v, KeepsCell a s v → KeepsCell a s (k r v)) : KeepsCell a s (u.memRead2 b k) :=
  h.transact spared (fun m => read_readCells_other _ m a spared.effects) fun v _ _ _ hv => next _ v hv

theorem KeepsCell.memWrite1 {b w : Byte} {k : Bool → State → State} (h : KeepsCell a s u) (spared : Spares u.nextBus a)
    (other : a ≠ b.toNat) (next : ∀ r v, KeepsCell a s v → KeepsCell a s (k r v)) : KeepsCell a s (u.memWrite1 b w k) :=
  h.transact spared (fun m => read_writtenCells_other _ m w other.symm) fun v _ _ _ hv => next _ v hv

/-! ### The access forms of the ops -/

theorem KeepsCell.configWrite {b w : Byte} {k : State → State} (h : KeepsCell a s u) (spared : Spares u.nextBus a)
    (other : a ≠ b.toNat) (next : ∀ v, KeepsCell a s v → KeepsCell a s (k v)) : KeepsCell a s (u.configWrite b w k) := by
  refine h.memWrite1 spared other fun ok v hv => ?_
  cases ok
  · exact hv.raise _ _ _
  · exact next v hv

theorem KeepsCell.calByte {b : Byte} {k : Byte → State → State} (h : KeepsCell a s u) (spared : Spares u.nextBus a)
    (next : ∀ x v, KeepsCell a s v → KeepsCell a s (k x v)) : KeepsCell a s (u.calByte b k) := by
  refine h.memRead1 spared fun v _ _ _ hv => ?_
  cases replyByte u.nextBus u.cells b.toNat
  · exact hv.raise _ _ _
  · exact next _ v hv

theorem KeepsCell.calPair {b : Byte} {k : Word → State → State} (h : KeepsCell a s u) (spared : Spares u.nextBus a)
    (next : ∀ w v, KeepsCell a s v → KeepsCell a s (k w v)) : KeepsCell a s (u.calPair b k) := by
  refine h.memRead2 spared fun r v hv => ?_
  cases r
  · exact hv.raise _ _ _
  · exact next _ v hv

theorem KeepsCell.dataPair {b : Byte} {k : Word → State → State} (h : KeepsCell a s u) (spared : Spares u.nextBus a)
    (next : ∀ w v, KeepsCell a s v → KeepsCell a s (k w v)) : KeepsCell a s (u.dataPair b k) := by
  refine h.memRead2 spared fun r v hv => ?_
  cases r
  · exact hv.raise _ _ _
  · exact next _ v hv

/-- The second transaction comes, and its answer has to spare the cell, only after a read answered `Ok` with nothing around it. -/
theorem KeepsCell.heaterRmw {change : Byte → Byte} {done : Option Bool → State → State} (h : KeepsCell a s u)
    (first : Spares u.nextBus a)
    (second : busQuiet u.nextBus = true → (replyByte u.nextBus u.cells u.cfg.aHeater.toNat).isSome = true → Spares u.secondBus a)
    (other : a ≠ u.cfg.aHeater.toNat) (next : ∀ failed v, KeepsCell a s v → KeepsCell a s (done failed v)) :
    KeepsCell a s (u.heaterRmw change done) := by
  refine h.memRead1 first fun v quiet cfg answer hv => ?_
  cases reply : replyByte u.nextBus u.cells u.cfg.aHeater.toNat with
  | none => exact next _ v hv
  | some b =>
    have latched : KeepsCell a s { v with hreg := some b } := hv.of_dev rfl
    have spared : Spares v.nextBus a := answer ▸ second quiet (by rw [reply]; rfl)
    exact latched.memWrite1 spared (cfg ▸ other) fun ok w hw => next _ w hw

end

/-! ### The ops -/

theorem State.nextBus_mem_opAnswers (s : State) {i : Instr} (h : i ∈ busOps) : s.nextBus ∈ s.opAnswers i := by
  by_cases hh : i ∈ heaterOps
  · rw [s.opAnswers_heater hh]
    split <;> exact List.mem_cons_self
  · rw [s.opAnswers_one h hh]
    exact List.mem_cons_self

theorem State.secondBus_mem_opAnswers (s : State) {i : Instr} (h : i ∈ heaterOps) (quiet : busQuiet s.nextBus = true)
    (reply : (replyByte s.nextBus s.cells s.cfg.aHeater.toNat).isSome = true) : s.secondBus ∈ s.opAnswers i := by
  simp [s.opAnswers_heater h, quiet, reply]

/-- 20 R47: an op that makes no bus transaction leaves all the device's cells as they are. -/
theorem exec_dev_of_no_bus {i : Instr} {s t : State} (hi : i ∉ busOps) (h : exec i s = .next t) : t.env.dev = s.env.dev := by
  cases i with
  | cfgav | cfgctl | ldh0 | ldh1 | ldh2 | ldh3 | ldt0l | ldt1l | ldtmsb | ldt2 | ldt3 | rdhum | rdtemp | htron | htroff =>
    exact absurd (by decide) hi
  | unpkt =>
    obtain ⟨_, -, h⟩ := need_next h
    obtain ⟨_, -, h⟩ := need_next h
    obtain ⟨_, -, ⟨⟩⟩ := need_next h
    rfl
  | chkcal =>
    obtain ⟨_, -, h⟩ := need_next h
    obtain ⟨_, -, h⟩ := need_next h
    obtain ⟨_, -, h⟩ := need_next h
    obtain ⟨_, -, ⟨⟩⟩ := need_next h
    split <;> rfl
  | cvhum | cvtc =>
    obtain ⟨_, -, h⟩ := need_next h
    obtain ⟨_, -, h⟩ := need_next h
    obtain ⟨_, -, h⟩ := need_next h
    obtain ⟨_, -, h⟩ := need_next h
    obtain ⟨_, -, h⟩ := need_next h
    obtain ⟨-, -, ⟨⟩⟩ := convertible_next h
    rfl
  | clamph | cvtf | satchk =>
    obtain ⟨_, -, ⟨⟩⟩ := need_next h
    rfl
  | retry =>
    obtain ⟨_, -, ⟨⟩⟩ := need_next h
    split_ifs <;> rfl
  | emit =>
    obtain ⟨_, -, h⟩ := need_next h
    obtain ⟨_, -, h⟩ := need_next h
    obtain ⟨_, -, ⟨⟩⟩ := need_next h
    refine State.sinkRequest_ind (P := fun v => v.env.dev = s.env.dev) (fun _ => rfl) (fun _ => rfl) ?_
    rintro _ rfl
    exact ⟨fun _ => rfl, fun _ => rfl, fun _ => by split <;> rfl⟩
  | dwell | sleep =>
    obtain ⟨⟩ := h
    exact State.wait_ind (P := fun v => v.env.dev = s.env.dev) (fun _ _ => rfl) (fun _ _ => rfl) rfl
  | halt =>
    obtain ⟨⟩ := h
    rfl

/-- 20 R47, R49: an op keeps every cell that the environment spares at the transactions it draws and that it does not write itself. -/
theorem exec_keepsCell {i : Instr} {s t : State} {a : Nat} (h : exec i s = .next t) (spared : ∀ an ∈ s.opAnswers i, Spares an a)
    (avconf : i = .cfgav → a ≠ s.cfg.aAvconf.toNat) (ctrl : i = .cfgctl → a ≠ s.cfg.aCtrl.toNat)
    (heater : i = .htron ∨ i = .htroff → a ≠ s.cfg.aHeater.toNat) : KeepsCell a s t := by
  have start : KeepsCell a s s := rfl
  have first (hi : i ∈ busOps) : Spares s.nextBus a := spared _ (s.nextBus_mem_opAnswers hi)
  have second (hi : i ∈ heaterOps) (quiet : busQuiet s.nextBus = true)
      (reply : (replyByte s.nextBus s.cells s.cfg.aHeater.toNat).isSome = true) : Spares s.secondBus a :=
    spared _ (s.secondBus_mem_opAnswers hi quiet reply)
  cases i with
  | cfgav =>
    obtain ⟨-, ⟨⟩⟩ := onCells_next h
    exact start.configWrite (first (by decide)) (avconf rfl) fun v hv => hv.of_dev rfl
  | cfgctl =>
    obtain ⟨-, ⟨⟩⟩ := onCells_next h
    exact start.configWrite (first (by decide)) (ctrl rfl) fun v hv => hv.of_dev rfl
  | ldh0 | ldh1 | ldt0l | ldt1l | ldtmsb =>
    obtain ⟨-, ⟨⟩⟩ := onCells_next h
    exact start.calByte (first (by decide)) fun x v hv => hv.of_dev rfl
  | ldh2 | ldh3 | ldt2 | ldt3 =>
    obtain ⟨-, ⟨⟩⟩ := onCells_next h
    exact start.calPair (first (by decide)) fun w v hv => hv.of_dev rfl
  | rdhum | rdtemp =>
    obtain ⟨-, ⟨⟩⟩ := onCells_next h
    exact start.dataPair (first (by decide)) fun w v hv => hv.of_dev rfl
  | htron =>
    obtain ⟨-, ⟨⟩⟩ := onCells_next h
    have begun : KeepsCell a s { s.setHs .heating with iter := s.iter + 1 } := start.of_dev rfl
    refine begun.heaterRmw (first (by decide)) (second (by decide)) (heater (.inl rfl)) fun failed v hv => ?_
    cases failed
    · exact hv.of_dev rfl
    · exact (hv.raise _ _ _).of_dev rfl
  | htroff =>
    obtain ⟨-, ⟨⟩⟩ := onCells_next h
    refine start.heaterRmw (first (by decide)) (second (by decide)) (heater (.inr rfl)) fun failed v hv => ?_
    cases failed
    · exact hv.of_dev rfl
    · exact (hv.of_dev rfl : KeepsCell a s ((v.setHtrUnsafe true).setHs .idle)).raise _ _ _
  | unpkt | chkcal | cvhum | clamph | cvtc | cvtf | satchk | dwell | retry | emit | sleep | halt =>
    exact start.of_dev (exec_dev_of_no_bus (by decide) h)

/-- Settles O50: the calibration cells are none of the registers the block writes, so the frame of every op covers them. -/
theorem memoryFrame : Obligations.MemoryFrame := by
  refine ⟨fun s t i ok p3 run a cal => ?_, fun s t i a run spared avconf ctrl heater => exec_keepsCell run spared avconf ctrl heater⟩
  have apart {b : Byte} (written : b ∈ s.cfg.bases.take 3) : a.toNat ≠ b.toNat := fun same =>
    Cfg.calCell_not_written ok cal (BitVec.eq_of_toNat_eq same ▸ written)
  exact exec_keepsCell run (fun an drawn p changed => p3 an drawn p changed a cal) (fun _ => apart (by simp [Cfg.bases]))
    (fun _ => apart (by simp [Cfg.bases])) (fun _ => apart (by simp [Cfg.bases]))

end Sys2Proof.Machine

/-! SUPPORT. The codes of format U (30_encoding R67, R69): `decodeOp` and `Instr.code` are inverse, and the decoders with them. -/

namespace Sys2Proof

theorem decodeOp_code (i : Instr) : decodeOp i.code = some i := by cases i <;> rfl

/-- The decoder's table holds each op beside its own code. -/
theorem code_of_decodeOp {c : Byte} {i : Instr} (h : decodeOp c = some i) : i.code = c := by
  unfold decodeOp at h
  split at h <;> cases h <;> exact BitVec.eq_of_toNat_eq (Eq.symm ‹c.toNat = _›)

@[simp] theorem decodeOp_eq_some_iff {c : Byte} {i : Instr} : decodeOp c = some i ↔ c = i.code :=
  ⟨fun h => (code_of_decodeOp h).symm, fun h => h ▸ decodeOp_code i⟩

theorem decodeOp_eq_none_iff {c : Byte} : decodeOp c = none ↔ ∀ i : Instr, i.code ≠ c :=
  Option.eq_none_iff_forall_ne_some.trans (forall_congr' fun _ => not_congr (decodeOp_eq_some_iff.trans eq_comm))

theorem decode_cons_of_some {c : Byte} {i : Instr} (h : decodeOp c = some i) (rest : List Byte) :
    decode (c :: rest) = .ok (i, rest) := by simp only [decode, h]

theorem decode_cons_of_none {c : Byte} (h : decodeOp c = none) (rest : List Byte) :
    decode (c :: rest) = .error (.noSuchCode c) := by simp only [decode, h]

/-- The decoder answers an op exactly if its encoding stands first in the bytes. -/
theorem decode_eq_ok_iff {bs rest : List Byte} {i : Instr} : decode bs = .ok (i, rest) ↔ bs = encode i ++ rest := by
  cases bs with
  | nil => simp [decode, encode]
  | cons c bs =>
    cases op : decodeOp c with
    | none => simp [decode_cons_of_none op, encode, (decodeOp_eq_none_iff.1 op i).symm]
    | some j =>
      obtain rfl := code_of_decodeOp op
      have same_code : j.code = i.code ↔ j = i := by rw [← decodeOp_eq_some_iff, decodeOp_code, Option.some_inj]
      simp [decode_cons_of_some op, encode, same_code]

theorem decodeAll_cons_eq_some_iff {c : Byte} {bs : List Byte} {is : List Instr} :
    decodeAll (c :: bs) = some is ↔ ∃ j js, decodeOp c = some j ∧ decodeAll bs = some js ∧ is = j :: js := by
  rw [decodeAll]
  cases decodeOp c <;> cases decodeAll bs <;> simp [eq_comm]

theorem decodeAll_eq_some_iff {bs : List Byte} {is : List Instr} : decodeAll bs = some is ↔ bs = encodeAll is := by
  induction bs generalizing is with
  | nil => simp [decodeAll, encodeAll, eq_comm]
  | cons c bs ih =>
    rw [decodeAll_cons_eq_some_iff]
    cases is with
    | nil => simp [encodeAll]
    | cons i is => simp [ih, encodeAll]

/-- Settles O56: one op by `decode_eq_ok_iff`, a sequence by `decodeAll_eq_some_iff`. -/
theorem decodeInvertsEncode : Obligations.DecodeInvertsEncode :=
  ⟨fun _ _ _ => decode_eq_ok_iff.2 rfl, fun _ _ _ => decode_eq_ok_iff.1, fun _ _ => decodeAll_eq_some_iff⟩

/-- Settles O57: the decoder refuses what `decodeOp` does not name, and `decodeOp` names every code of the microprogram. -/
theorem otherCodesAreRefused : Obligations.OtherCodesAreRefused := by
  refine ⟨fun c rest other => decode_cons_of_none (decodeOp_eq_none_iff.2 other) rest, fun ph c stands => ?_⟩
  obtain ⟨i, op⟩ := Option.isSome_iff_exists.1 (Machine.rom_decodes ph c stands)
  exact ⟨i, op, code_of_decodeOp op⟩

/-- Settles O55: each of the five bytes is the encoding of its op. -/
theorem codesDecodeAsTabled : Obligations.CodesDecodeAsTabled :=
  ⟨decode_eq_ok_iff.2 rfl, decode_eq_ok_iff.2 rfl, decode_eq_ok_iff.2 rfl, decode_eq_ok_iff.2 rfl, decode_eq_ok_iff.2 rfl⟩

end Sys2Proof

/-! SUPPORT. Decimal numerals as the record prints them (30_encoding R66). -/

namespace Sys2Proof

open Machine

/-- The ASCII digit of a number below ten. -/
def asciiDigit (d : ℕ) : Byte := BitVec.ofNat 8 (0x30 + d)

theorem toNat_asciiDigit {d : ℕ} (hd : d < 10) : (asciiDigit d).toNat = 0x30 + d :=
  Nat.mod_eq_of_lt (by omega)

theorem digitsValue_append_asciiDigit (l : List Byte) {d : ℕ} (hd : d < 10) :
    digitsValue (l ++ [asciiDigit d]) = 10 * digitsValue l + d := by
  simp [digitsValue, toNat_asciiDigit hd]

/-- A byte of a decimal numeral. -/
def IsAsciiDigit (b : Byte) : Prop := 0x30 ≤ b.toNat ∧ b.toNat ≤ 0x39

theorem isAsciiDigit_asciiDigit {d : ℕ} (hd : d < 10) : IsAsciiDigit (asciiDigit d) := by
  unfold IsAsciiDigit; rw [toNat_asciiDigit hd]; omega

/-- `l` is the decimal numeral of `n`: digits of that value, at least one, and a leading zero only as the whole of it. -/
structure IsNumeral (n : ℕ) (l : List Byte) : Prop where
  value : digitsValue l = n
  nonempty : l ≠ []
  leading : l.head? = some 0x30 → l = [0x30]
  digits : ∀ b ∈ l, IsAsciiDigit b

theorem IsNumeral.singleton {d : ℕ} (hd : d < 10) : IsNumeral d [asciiDigit d] where
  value := by simpa [digitsValue] using digitsValue_append_asciiDigit [] hd
  nonempty := List.cons_ne_nil _ _
  leading h := by simpa using h
  digits := by simpa using isAsciiDigit_asciiDigit hd

/-- A digit put after the numeral of a positive number: its first digit is no zero and stays the first. -/
theorem IsNumeral.snoc {n d : ℕ} {l : List Byte} (h : IsNumeral n l) (hn : 0 < n) (hd : d < 10) :
    IsNumeral (10 * n + d) (l ++ [asciiDigit d]) where
  value := by rw [digitsValue_append_asciiDigit l hd, h.value]
  nonempty := by simp
  leading zero := by
    rw [List.head?_append_of_ne_nil _ h.nonempty] at zero
    have : n = 0 := by rw [← h.value, h.leading zero]; rfl
    omega
  digits b hb := by
    obtain old | rfl := by simpa using hb
    · exact h.digits b old
    · exact isAsciiDigit_asciiDigit hd

theorem decimalDigits_eq_append (fuel n : ℕ) (acc : List Byte) :
    decimalDigits fuel n acc = decimalDigits fuel n [] ++ acc := by
  induction fuel generalizing n acc with
  | zero => rfl
  | succ fuel ih =>
    simp only [decimalDigits]
    split_ifs
    · rfl
    · rw [ih _ (_ :: acc), ih _ [_], List.append_assoc, List.singleton_append]

theorem decimalDigits_of_lt_ten {n : ℕ} (fuel : ℕ) (hn : n < 10) : decimalDigits (fuel + 1) n [] = [asciiDigit n] := by
  simp [decimalDigits, asciiDigit, Nat.div_eq_of_lt hn, Nat.mod_eq_of_lt hn]

theorem decimalDigits_of_ten_le {n : ℕ} (fuel : ℕ) (hn : 10 ≤ n) :
    decimalDigits (fuel + 1) n [] = decimalDigits fuel (n / 10) [] ++ [asciiDigit (n % 10)] := by
  rw [decimalDigits, if_neg (by omega), decimalDigits_eq_append, asciiDigit]

/-- As many digits as `n` has bits are enough. -/
theorem isNumeral_decimalDigits {fuel n : ℕ} (hn : n < 2 ^ (fuel + 1)) : IsNumeral n (decimalDigits (fuel + 1) n []) := by
  induction fuel generalizing n with
  | zero =>
    rw [decimalDigits_of_lt_ten _ (by omega)]
    exact .singleton (by omega)
  | succ fuel ih =>
    obtain small | large := Nat.lt_or_ge n 10
    · rw [decimalDigits_of_lt_ten _ small]
      exact .singleton small
    · rw [decimalDigits_of_ten_le _ large]
      have front : IsNumeral (n / 10) (decimalDigits (fuel + 1) (n / 10) []) := ih (by omega)
      simpa only [Nat.div_add_mod] using front.snoc (by omega) (Nat.mod_lt n (by decide))

/-- The whole number nearest to a hundred times the magnitude of `x`, whose digits `fmt2` prints. -/
def F32.hundredths (x : F32) : ℕ := roundHalfEven (x.scaled * 100) (2 ^ 150)

theorem F32.hundredths_nearest (x : F32) :
    abs ((x.hundredths : ℚ) - 100 * abs x.val.toRat) ≤ 1 / 2 ∧
      (abs ((x.hundredths : ℚ) - 100 * abs x.val.toRat) = 1 / 2 → x.hundredths % 2 = 0) := by
  have exact_value : 100 * abs x.val.toRat = ((x.scaled * 100 : ℕ) : ℚ) / (2 ^ 150 : ℕ) := by
    rw [F32.abs_toRat_val, F32.magVal, ← F32.scaled_eq_magScaled]
    push_cast
    ring
  rw [exact_value]
  exact roundHalfEven_nearest (by positivity)

theorem fmt2_eq (x : F32) :
    fmt2 x = (if x.neg = true ∧ x.hundredths ≠ 0 then [0x2D] else []) ++
      decimalDigits (Nat.log2 (x.hundredths / 100) + 1) (x.hundredths / 100) [] ++
      [0x2E, asciiDigit (x.hundredths % 100 / 10), asciiDigit (x.hundredths % 10)] :=
  congrArg (· ++ _ ++ _) (if_congr (by simp [F32.hundredths]) rfl rfl)

/-- Settles O30: `hundredths` is the number printed, its digits by `isNumeral_decimalDigits`. -/
theorem fmt2PrintsTwoDecimals : Obligations.Fmt2PrintsTwoDecimals := by
  refine ⟨fun _ _ _ => rfl, fun x => ?_⟩
  obtain ⟨near, even⟩ := x.hundredths_nearest
  have whole := isNumeral_decimalDigits (n := x.hundredths / 100) Nat.lt_log2_self
  have tens : x.hundredths % 100 / 10 < 10 := by omega
  have ones : x.hundredths % 10 < 10 := by omega
  have decimals : digitsValue [asciiDigit (x.hundredths % 100 / 10), asciiDigit (x.hundredths % 10)] = x.hundredths % 100 := by
    simp only [digitsValue, List.foldl_cons, List.foldl_nil, toNat_asciiDigit tens, toNat_asciiDigit ones]
    omega
  refine ⟨x.hundredths, _, _, _, near, even, fmt2_eq x, whole.value, decimals, whole.nonempty, whole.leading, ?_⟩
  simp only [List.forall_mem_cons]
  exact ⟨isAsciiDigit_asciiDigit tens, isAsciiDigit_asciiDigit ones, whole.digits⟩

end Sys2Proof

/-! SUPPORT. What ends an op, read off its points in order (60_exceptions R170), and that past the boot an op no `RESET` ends leaves the
calibration alone (10_state R35 e, 40_calibration R97). -/

namespace Sys2Proof.Machine

open Sys2Proof

/-! ### The first stop -/

/-- The first of these points at which `TERM` or `RESET` is taken; `none` if neither is. -/
def firstStop (points : List Async) : Async := (points.find? fun a => decide (a ≠ .none)).getD .none

theorem State.opInterrupt_eq (s : State) (i : Instr) : s.opInterrupt i = firstStop (s.opPoints i) := rfl

theorem firstStop_append (l m : List Async) : firstStop (l ++ m) = if firstStop l = .none then firstStop m else firstStop l := by
  induction l with
  | nil => rfl
  | cons a l ih => cases a with
    | none => exact ih
    | term | reset => rfl

/-- The two points around a bus transaction. -/
def busPoints (an : BusAnswer) : List Async := [an.before, an.after]

theorem firstStop_busPoints_of_quiet {an : BusAnswer} (h : busQuiet an = true) : firstStop (busPoints an) = .none := by
  obtain ⟨before, after⟩ := (busQuiet_iff an).1 h
  simp [busPoints, firstStop, before, after]

theorem State.opPoints_bus (s : State) {i : Instr} (h : i ∈ busOps) : s.opPoints i = (s.opAnswers i).flatMap busPoints := by
  cases i with
  | dwell | emit | sleep => exact absurd h (by decide)
  | _ => rfl

/-- What ends an op comes no later than what is around its first transaction. -/
theorem State.first_not_reset {s : State} {i : Instr} (hi : i ∈ busOps) (live : s.opInterrupt i ≠ .reset) :
    firstStop (busPoints s.nextBus) ≠ .reset := by
  have first : ∃ rest, s.opAnswers i = s.nextBus :: rest := by
    by_cases hh : i ∈ heaterOps
    · rw [s.opAnswers_heater hh]
      split <;> exact ⟨_, rfl⟩
    · exact ⟨[], s.opAnswers_one hi hh⟩
  obtain ⟨rest, answers⟩ := first
  rw [s.opInterrupt_eq, s.opPoints_bus hi, answers, List.flatMap_cons, firstStop_append] at live
  intro reset
  simp [reset] at live

/-- After a quiet read answered `Ok` what ends a heater op is what is around its write. -/
theorem State.second_not_reset {s : State} {i : Instr} (hi : i ∈ heaterOps) (live : s.opInterrupt i ≠ .reset)
    (quiet : busQuiet s.nextBus = true) (reply : (replyByte s.nextBus s.cells s.cfg.aHeater.toNat).isSome = true) :
    firstStop (busPoints s.secondBus) ≠ .reset := by
  simpa [s.opInterrupt_eq, s.opPoints_bus (heaterOps_busOps hi), s.opAnswers_heater hi, quiet, reply, firstStop_append,
    firstStop_busPoints_of_quiet quiet] using live

/-- A wait is some of its ticks, recorded, and then its one point. -/
theorem State.wait_eq_pass (s : State) (k : State → State) :
    ∃ n, s.wait k = ({ s.drawWait with tmr := s.tmr - n }.record (.wait n)).pass s.nextWait.what k :=
  ⟨_, by rw [State.wait, State.ticks_eq]; rfl⟩

/-! ### The calibration kept from state to state -/

/-- From `s` to `t` the calibration, its flag and the configuration are carried along, and what is new on the trace belongs to a cycle. -/
structure CalibrationKept (s t : State) : Prop where
  cal : t.cal = s.cal
  valid : t.f.calValid = s.f.calValid
  cfg : t.cfg = s.cfg
  trace : ∃ es, t.trace = s.trace ++ es ∧ ∀ e ∈ es, e.inCycle s.cfg = true

theorem CalibrationKept.refl (s : State) : CalibrationKept s s := ⟨rfl, rfl, rfl, [], by simp⟩

section

variable {s u : State}

/-- An update of other registers. -/
theorem CalibrationKept.of_frame {t : State} (h : CalibrationKept s u) (cal : t.cal = u.cal) (valid : t.f.calValid = u.f.calValid)
    (cfg : t.cfg = u.cfg) (trace : t.trace = u.trace) : CalibrationKept s t :=
  ⟨cal.trans h.cal, valid.trans h.valid, cfg.trans h.cfg, trace ▸ h.trace⟩

/-- The same, with an item of a cycle put on the trace. -/
theorem CalibrationKept.record {t : State} {e : Event} (h : CalibrationKept s u) (allowed : e.inCycle u.cfg = true) (cal : t.cal = u.cal)
    (valid : t.f.calValid = u.f.calValid) (cfg : t.cfg = u.cfg) (trace : t.trace = u.trace ++ [e]) : CalibrationKept s t := by
  obtain ⟨es, grown, all⟩ := h.trace
  refine ⟨cal.trans h.cal, valid.trans h.valid, cfg.trans h.cfg, es ++ [e], by rw [trace, grown, List.append_assoc], fun e' mem => ?_⟩
  rcases List.mem_append.1 mem with old | new
  · exact all e' old
  · rw [List.mem_singleton.1 new, ← h.cfg, allowed]

theorem CalibrationKept.takeTerm (h : CalibrationKept s u) : CalibrationKept s u.takeTerm := h.of_frame rfl rfl rfl rfl

/-- Only the errors of the startup class discard the calibration. -/
theorem CalibrationKept.raise (h : CalibrationKept s u) {e : ErrKind} (later : e.cls ≠ .startup) (addr : Byte) (rw : Bool) :
    CalibrationKept s (u.raise e addr rw) := by
  have logged : CalibrationKept s (u.report e addr rw) :=
    h.record (e := .log _) rfl rfl rfl rfl rfl
  cases kind : e.cls with
  | startup => exact absurd kind later
  | cycleAbort => exact u.raise_cycleAbort e addr rw kind ▸ logged.of_frame rfl rfl rfl rfl
  | reportOnly => exact u.raise_reportOnly e addr rw kind ▸ logged

/-! ### The shared operations -/

theorem CalibrationKept.transact {α : Type} {carry : BusAnswer → Memory → α × Memory} {event : α → Event} {k : α → State → State}
    (h : CalibrationKept s u) (live : firstStop (busPoints u.nextBus) ≠ .reset) (allowed : ∀ r, (event r).inCycle u.cfg = true)
    (next : ∀ v, busQuiet u.nextBus = true → v.cfg = u.cfg → v.nextBus = u.secondBus → CalibrationKept s v →
      CalibrationKept s (k (u.replyOf carry) v)) : CalibrationKept s (u.transact carry event k) := by
  have drawn : CalibrationKept s u.drawBus := h.of_frame rfl rfl rfl rfl
  have answered : CalibrationKept s (u.carried carry event) :=
    h.record (allowed _) rfl rfl rfl rfl
  exact State.transact_ind (fun _ => drawn.takeTerm) (fun before => absurd (by simp [busPoints, firstStop, before]) live)
    (fun _ _ => answered.takeTerm) (fun before after => absurd (by simp [busPoints, firstStop, before, after]) live)
    (fun before after => next _ ((busQuiet_iff _).2 ⟨before, after⟩) rfl rfl answered)

theorem CalibrationKept.dataPair {a : Byte} {k : Word → State → State} (h : CalibrationKept s u)
    (live : firstStop (busPoints u.nextBus) ≠ .reset) (data : a = u.cfg.aHum ∨ a = u.cfg.aTemp)
    (next : ∀ w v, CalibrationKept s v → CalibrationKept s (k w v)) : CalibrationKept s (u.dataPair a k) := by
  have allowed (r : Option (Byte × Byte)) : (Event.r2 u.cfg.devAddr (u.cfg.incByte a) r).inCycle u.cfg = true := by
    rcases data with rfl | rfl <;> simp [Event.inCycle]
  unfold State.dataPair State.memRead2
  refine h.transact live allowed fun v _ _ _ hv => ?_
  cases u.replyOf fun an m => (replyPair an m a.toNat, readCells an m)
  · exact hv.raise (by decide) _ _
  · exact next _ v hv

theorem CalibrationKept.heaterRmw {change : Byte → Byte} {done : Option Bool → State → State} (h : CalibrationKept s u)
    (first : firstStop (busPoints u.nextBus) ≠ .reset)
    (second : busQuiet u.nextBus = true → (replyByte u.nextBus u.cells u.cfg.aHeater.toNat).isSome = true →
      firstStop (busPoints u.secondBus) ≠ .reset)
    (next : ∀ failed v, CalibrationKept s v → CalibrationKept s (done failed v)) : CalibrationKept s (u.heaterRmw change done) := by
  unfold State.heaterRmw State.memRead1 State.memWrite1
  refine h.transact first (fun _ => decide_eq_true rfl) fun v quiet cfg answer hv => ?_
  cases reply : u.replyOf fun an m => (replyByte an m u.cfg.aHeater.toNat, readCells an m) with
  | none => exact next _ v hv
  | some b =>
    have latched : CalibrationKept s { v with hreg := some b } := hv.of_frame rfl rfl rfl rfl
    have live : firstStop (busPoints v.nextBus) ≠ .reset := answer ▸ second quiet (Option.isSome_of_eq_some reply)
    exact latched.transact live (fun _ => decide_eq_true rfl) fun w _ _ _ hw => next _ w hw

theorem CalibrationKept.sinkRequest {text : List Byte} {k : Bool → State → State} (h : CalibrationKept s u)
    (live : firstStop [u.nextSink.before, u.nextSink.after] ≠ .reset)
    (next : ∀ ok v, CalibrationKept s v → CalibrationKept s (k ok v)) : CalibrationKept s (u.sinkRequest text k) := by
  have drawn : CalibrationKept s u.drawSink := h.of_frame rfl rfl rfl rfl
  have answered (left : Option (List Byte)) : CalibrationKept s ((u.drawSink.setSink left).record (.sink text u.nextSink.ok)) :=
    h.record (e := .sink _ _) rfl rfl rfl rfl rfl
  unfold State.sinkRequest
  refine State.pass_ind (fun _ => drawn.takeTerm) (fun before => absurd (by simp [firstStop, before]) live) fun before => ?_
  exact State.pass_ind (fun _ => (answered _).takeTerm) (fun after => absurd (by simp [firstStop, before, after]) live)
    fun _ => next _ _ (answered _)

theorem CalibrationKept.wait {k : State → State} (h : CalibrationKept s u) (live : firstStop [u.nextWait.what] ≠ .reset)
    (next : ∀ v, CalibrationKept s v → CalibrationKept s (k v)) : CalibrationKept s (u.wait k) := by
  obtain ⟨n, passed⟩ := u.wait_eq_pass k
  have waited : CalibrationKept s ({ u.drawWait with tmr := u.tmr - n }.record (.wait n)) :=
    h.record (e := .wait n) rfl rfl rfl rfl rfl
  rw [passed]
  exact State.pass_ind (fun _ => waited.takeTerm) (fun what => absurd (by simp [firstStop, what]) live) fun _ => next _ waited

end

/-! ### The ops and the step -/

/-- The ops past the boot are those of the families 2, 3 and 4 (30_encoding R67). -/
theorem exec_calibrationKept {i : Instr} {s t : State} (h : exec i s = .next t) (past : i.family ≠ 0 ∧ i.family ≠ 1)
    (live : s.opInterrupt i ≠ .reset) : CalibrationKept s t := by
  have start := CalibrationKept.refl s
  have first (hi : i ∈ busOps) : firstStop (busPoints s.nextBus) ≠ .reset := State.first_not_reset hi live
  have second (hi : i ∈ heaterOps) := State.second_not_reset hi live
  cases i with
  | cfgav | cfgctl => exact absurd rfl past.1
  | ldh0 | ldh1 | ldh2 | ldh3 | ldt0l | ldt1l | ldtmsb | unpkt | ldt2 | ldt3 | chkcal => exact absurd rfl past.2
  | rdhum =>
    obtain ⟨-, ⟨⟩⟩ := onCells_next h
    exact start.dataPair (first (by decide)) (.inl rfl) fun w v hv => hv.of_frame rfl rfl rfl rfl
  | rdtemp =>
    obtain ⟨-, ⟨⟩⟩ := onCells_next h
    exact start.dataPair (first (by decide)) (.inr rfl) fun w v hv => hv.of_frame rfl rfl rfl rfl
  | cvhum | cvtc =>
    obtain ⟨_, -, h⟩ := need_next h
    obtain ⟨_, -, h⟩ := need_next h
    obtain ⟨_, -, h⟩ := need_next h
    obtain ⟨_, -, h⟩ := need_next h
    obtain ⟨_, -, h⟩ := need_next h
    obtain ⟨-, -, ⟨⟩⟩ := convertible_next h
    exact start.of_frame rfl rfl rfl rfl
  | clamph | cvtf | satchk =>
    obtain ⟨_, -, ⟨⟩⟩ := need_next h
    exact start.of_frame rfl rfl rfl rfl
  | htron =>
    obtain ⟨-, ⟨⟩⟩ := onCells_next h
    have begun : CalibrationKept s { s.setHs .heating with iter := s.iter + 1 } := start.of_frame rfl rfl rfl rfl
    refine begun.heaterRmw (first (by decide)) (second (by decide)) fun failed v hv => ?_
    cases failed
    · exact hv.of_frame rfl rfl rfl rfl
    · exact (hv.raise (by decide) _ _).of_frame rfl rfl rfl rfl
  | htroff =>
    obtain ⟨-, ⟨⟩⟩ := onCells_next h
    refine start.heaterRmw (first (by decide)) (second (by decide)) fun failed v hv => ?_
    cases failed
    · exact hv.of_frame rfl rfl rfl rfl
    · exact (hv.of_frame rfl rfl rfl rfl : CalibrationKept s ((v.setHtrUnsafe true).setHs .idle)).raise (by decide) _ _
  | retry =>
    obtain ⟨_, -, ⟨⟩⟩ := need_next h
    have unresolved : CalibrationKept s ((s.setSatUnres true).setHs .idle) := start.of_frame rfl rfl rfl rfl
    split_ifs
    · exact start.of_frame rfl rfl rfl rfl
    · exact (unresolved.raise (by decide) _ _).of_frame rfl rfl rfl rfl
    · exact start.of_frame rfl rfl rfl rfl
  | emit =>
    obtain ⟨_, -, h⟩ := need_next h
    obtain ⟨_, -, h⟩ := need_next h
    obtain ⟨_, -, ⟨⟩⟩ := need_next h
    refine start.sinkRequest live fun ok v hv => ?_
    cases ok
    · exact hv.raise (by decide) _ _
    · exact hv.of_frame rfl rfl rfl rfl
  | dwell =>
    obtain ⟨⟩ := h
    have loaded : CalibrationKept s (s.loadTimer s.cfg.dwellTicks) := start.of_frame rfl rfl rfl rfl
    exact loaded.wait live fun v hv => hv.of_frame rfl rfl rfl rfl
  | sleep =>
    obtain ⟨⟩ := h
    have loaded : CalibrationKept s (s.loadTimer s.cfg.cycleTicks) := start.of_frame rfl rfl rfl rfl
    exact loaded.wait live fun v hv => hv.of_frame rfl rfl rfl rfl
  | halt =>
    obtain ⟨⟩ := h
    exact start.of_frame rfl rfl rfl rfl

/-- In boot the calibration is not yet valid, so a block whose calibration is valid is past it. -/
theorem State.not_inBoot_of_calValid {s : State} (inv : s.inv = true) (valid : s.f.calValid = true) : inBoot s.ph ≠ true := by
  obtain ⟨-, -, regs⟩ := s.inv_iff.1 inv
  intro boot
  obtain ⟨-, ⟨-, invalid, -⟩, -⟩ := (State.regInv_boot boot).1 regs
  exact absurd valid (by simp [invalid])

theorem rom_family {ph : Byte} {i : Instr} (h : (ph, i) ∈ romTable) (past : inBoot ph ≠ true) : i.family ≠ 0 ∧ i.family ≠ 1 :=
  (by decide : ∀ p ∈ romTable, inBoot p.1 ≠ true → p.2.family ≠ 0 ∧ p.2.family ≠ 1) _ h past

/-- Settles O48: a valid calibration means a phase past the boot, whose ops keep it unless a `RESET` ends them. -/
theorem calibrationIsImmutable : Obligations.CalibrationIsImmutable := by
  intro s t inv valid noReset run
  have start : CalibrationKept s s.drawEvent := (CalibrationKept.refl s).of_frame rfl rfl rfl rfl
  have kept : CalibrationKept s t := by
    obtain ⟨reset, -⟩ | ⟨-, -, rfl⟩ | ⟨-, i, stands, ran, interrupt, -⟩ := step_points run
    · exact absurd reset noReset
    · exact start.takeTerm
    · obtain ⟨cal, valid', cfg, trace⟩ := exec_calibrationKept ran (rom_family stands (State.not_inBoot_of_calValid inv valid))
        (interrupt ▸ noReset)
      exact ⟨cal, valid', cfg, trace⟩
  exact ⟨kept.cal, kept.valid.trans valid, kept.trace⟩

end Sys2Proof.Machine

/-! SUPPORT. The ops at their phases (43_pollloop R141), and what the configuration writes and the calibration reads leave when neither
`TERM` nor `RESET` comes around them (40_calibration R81 to R93, R96). -/

namespace Sys2Proof.Machine

open Sys2Proof

/-! ### The ops at their phases -/

/-- `romTable` lists exactly the phases with an op, each with its op. -/
theorem rom_iff {ph : Byte} {i : Instr} : (romCode ph).bind decodeOp = some i ↔ (ph, i) ∈ romTable := by
  refine ⟨fun h => ?_, rom_op (ph, i)⟩
  obtain ⟨c, code, op⟩ := Option.bind_eq_some_iff.1 h
  exact rom_mem ph c code i op

/-- The phases at which an op stands, in order. -/
def phasesOf (i : Instr) : List Byte := (romTable.filter fun p => decide (p.2 = i)).map Prod.fst

theorem stands (i : Instr) : Stands i i.code (phasesOf i) :=
  ⟨rfl, fun ph => by simp [rom_iff, phasesOf]⟩

/-! ### Startup errors -/

section

variable (s : State) (addr : Byte) (rw : Bool)

theorem State.raise_configurationError : s.raise .configurationError addr rw =
    { s with ph := 0x3F, err := s.errNow 0x10 addr rw, trace := s.trace ++ [.log (s.errNow 0x10 addr rw)] } := rfl

theorem State.raise_calibrationError : s.raise .calibrationError addr rw =
    { s with
      cal := {}, lat := {}, ph := 0x3F, err := s.errNow 0x20 addr rw
      trace := s.trace ++ [.log (s.errNow 0x20 addr rw)] } := rfl

theorem State.raise_conversionDomainError : s.raise .conversionDomainError addr rw =
    { s with
      cal := {}, lat := {}, ph := 0x3F, err := s.errNow 0x21 addr rw
      trace := s.trace ++ [.log (s.errNow 0x21 addr rw)] } := rfl

/-- A `CalibrationError` right after a read, the read's event `e` last on the trace. -/
theorem State.raise_calibrationError_afterRead (e : Event) :
    ({ s with env := s.afterRead, trace := s.trace ++ [e] } : State).raise .calibrationError addr false = s.loadFailed addr e := by
  rw [State.raise_calibrationError, List.append_assoc]
  rfl

end

/-! ### Configuration writes and calibration loads -/

section

variable {s : State} {a : Byte}

theorem configWrite_ok (fits : a.toNat < 128) (h : s.repliesWrite true) (v : Byte) (k : State → State) :
    onCells a 1 (.next (s.configWrite a v k)) =
      .next (k { s with env := s.afterWrite a v, trace := s.trace ++ [.w1 s.cfg.devAddr a v true] }) := by
  rw [onCells_of_le fits, State.configWrite, State.memWrite1_quiet h]
  rfl

theorem configWrite_err (fits : a.toNat < 128) (h : s.repliesWrite false) (v : Byte) (k : State → State) :
    onCells a 1 (.next (s.configWrite a v k)) = .next { s with
      ph := 0x3F, err := s.errNow 0x10 a true, env := s.afterWrite a v
      trace := s.trace ++ [.w1 s.cfg.devAddr a v false, .log (s.errNow 0x10 a true)] } := by
  rw [onCells_of_le fits, State.configWrite, State.memWrite1_quiet h, if_neg Bool.false_ne_true, State.raise_configurationError,
    List.append_assoc]
  rfl

theorem byteLoad_ok (fits : a.toNat < 128) {b : Byte} (h : s.repliesByte a (some b)) (k : Byte → State → State) :
    onCells a 1 (.next (s.calByte a k)) =
      .next (k b { s with env := s.afterRead, trace := s.trace ++ [.r1 s.cfg.devAddr a (some b)] }) := by
  rw [onCells_of_le fits, State.calByte, State.memRead1_quiet h]

theorem byteLoad_err (fits : a.toNat < 128) (h : s.repliesByte a none) (k : Byte → State → State) :
    onCells a 1 (.next (s.calByte a k)) = .next (s.loadFailed a (.r1 s.cfg.devAddr a none)) := by
  rw [onCells_of_le fits, State.calByte, State.memRead1_quiet h, State.raise_calibrationError_afterRead]

theorem pairLoad_ok (fits : a.toNat + 1 < 128) {b0 b1 : Byte} (h : s.repliesPair a (some (b0, b1))) (k : Word → State → State) :
    onCells a 2 (.next (s.calPair a k)) =
      .next (k (pairWord b0 b1) { s with env := s.afterRead, trace := s.trace ++ [.r2 s.cfg.devAddr (s.cfg.incByte a) (some (b0, b1))] }) := by
  rw [onCells_of_le fits, State.calPair, State.memRead2_quiet h]
  rfl

theorem pairLoad_err (fits : a.toNat + 1 < 128) (h : s.repliesPair a none) (k : Word → State → State) :
    onCells a 2 (.next (s.calPair a k)) =
      .next (s.loadFailed (s.cfg.incByte a) (.r2 s.cfg.devAddr (s.cfg.incByte a) none)) := by
  rw [onCells_of_le fits, State.calPair, State.memRead2_quiet h, Option.map_none, State.raise_calibrationError_afterRead]

end

/-- Settles O2: the two answers of a configuration write. -/
theorem cfgavWritesAveraging : Obligations.CfgavWritesAveraging := by
  refine ⟨stands _, fun s ok => ?_⟩
  have fits : s.cfg.aAvconf.toNat < 128 := Cfg.base_lt ok (by simp [Cfg.bases])
  exact ⟨fun h => configWrite_ok fits h _ _, fun h => configWrite_err fits h _ _⟩

/-- Settles O3: the two answers of a configuration write. -/
theorem cfgctlWritesControl : Obligations.CfgctlWritesControl := by
  refine ⟨stands _, fun s ok => ?_⟩
  have fits : s.cfg.aCtrl.toNat < 128 := Cfg.base_lt ok (by simp [Cfg.bases])
  exact ⟨fun h => configWrite_ok fits h _ _, fun h => configWrite_err fits h _ _⟩

/-- Settles O4: the two replies of a one-byte load, for each of the two ops. -/
theorem anchorLoadsHalveTheByte : Obligations.AnchorLoadsHalveTheByte := by
  refine ⟨stands _, stands _, fun s ok => ?_⟩
  have h0 : s.cfg.aH0.toNat < 128 := Cfg.base_lt ok (by simp [Cfg.bases])
  have h1 : s.cfg.aH1.toNat < 128 := Cfg.base_lt ok (by simp [Cfg.bases])
  exact ⟨fun b h => byteLoad_ok h0 h _, fun h => byteLoad_err h0 h _, fun b h => byteLoad_ok h1 h _, fun h => byteLoad_err h1 h _⟩

/-- Settles O5: the two replies of a two-byte load, for each of the four ops; the word is `pairWord` of the bytes. -/
theorem pairLoadsStoreSignedCounts : Obligations.PairLoadsStoreSignedCounts := by
  refine ⟨stands _, stands _, stands _, stands _, fun s ok => ?_⟩
  have h2 : s.cfg.aH2.toNat + 1 < 128 := Cfg.pair_lt ok (by simp [Cfg.pairBases])
  have h3 : s.cfg.aH3.toNat + 1 < 128 := Cfg.pair_lt ok (by simp [Cfg.pairBases])
  have t2 : s.cfg.aT2.toNat + 1 < 128 := Cfg.pair_lt ok (by simp [Cfg.pairBases])
  have t3 : s.cfg.aT3.toNat + 1 < 128 := Cfg.pair_lt ok (by simp [Cfg.pairBases])
  exact ⟨fun b0 b1 h => ⟨_, pairWord_toNat b0 b1, pairLoad_ok h2 h _⟩, fun b0 b1 h => ⟨_, pairWord_toNat b0 b1, pairLoad_ok h3 h _⟩,
    fun b0 b1 h => ⟨_, pairWord_toNat b0 b1, pairLoad_ok t2 h _⟩, fun b0 b1 h => ⟨_, pairWord_toNat b0 b1, pairLoad_ok t3 h _⟩,
    fun h => pairLoad_err h2 h _, fun h => pairLoad_err h3 h _, fun h => pairLoad_err t2 h _, fun h => pairLoad_err t3 h _⟩

/-- Settles O6: the two replies of a one-byte load, for each of the three ops. -/
theorem latchLoadsKeepWholeByte : Obligations.LatchLoadsKeepWholeByte := by
  refine ⟨stands _, stands _, stands _, fun s ok => ?_⟩
  have t0 : s.cfg.aT0.toNat < 128 := Cfg.base_lt ok (by simp [Cfg.bases])
  have t1 : s.cfg.aT1.toNat < 128 := Cfg.base_lt ok (by simp [Cfg.bases])
  have tmsb : s.cfg.aTmsb.toNat < 128 := Cfg.base_lt ok (by simp [Cfg.bases])
  exact ⟨fun b h => byteLoad_ok t0 h _, fun h => byteLoad_err t0 h _, fun b h => byteLoad_ok t1 h _, fun h => byteLoad_err t1 h _,
    fun b h => byteLoad_ok tmsb h _, fun h => byteLoad_err tmsb h _⟩

/-! ### The anchors and the check -/

/-- The two low bits of a status byte, as a number. -/
theorem toNat_and_three (m : Byte) : (m &&& 0x03).toNat = m.toNat % 4 := Nat.and_two_pow_sub_one_eq_mod m.toNat 2

/-- Bits 3:2 of a status byte, as a number. -/
theorem toNat_and_twelve : ∀ m : Byte, (m &&& 0x0C).toNat = m.toNat / 4 % 4 * 4 := by decide +kernel

/-- Both parts of `packedT0` fit 10 bits. -/
theorem packedT0_toNat (m l : Byte) : (packedT0 m l).toNat = (m &&& 0x03).toNat * 256 + l.toNat := by
  have := toNat_and_three m
  exact (BitVec.toNat_ofNat _ _).trans (Nat.mod_eq_of_lt (by omega))

/-- Both parts of `packedT1` fit 10 bits. -/
theorem packedT1_toNat (m l : Byte) : (packedT1 m l).toNat = (m &&& 0x0C).toNat * 64 + l.toNat := by
  have := toNat_and_twelve m
  exact (BitVec.toNat_ofNat _ _).trans (Nat.mod_eq_of_lt (by omega))

/-- Settles O7: the values stored are `packedT0` and `packedT1`. -/
theorem unpktRebuildsAnchors : Obligations.UnpktRebuildsAnchors := by
  refine ⟨stands _, fun s m l0 l1 tmsb t0l t1l => ⟨packedT0 m l0, packedT1 m l1, ?_, ?_, packedT0_toNat m l0, packedT1_toNat m l1, ?_⟩⟩
  · rw [packedT0_toNat, toNat_and_three]
  · rw [packedT1_toNat, toNat_and_twelve]
    omega
  · change execUnpkt s = _
    rw [execUnpkt, tmsb, t0l, t1l]
    rfl

/-- A count pair is compared as signed numbers (R95): sign extension loses no bit. -/
theorem denominatorZero_iff {h2 h3 t2 t3 : Word} :
    denominatorZero h2 h3 t2 t3 = true ↔ sext16 h3 = sext16 h2 ∨ sext16 t3 = sext16 t2 := by
  simp [denominatorZero, sext16_inj]

/-- Settles O8: with the four counts there, by the check on the denominators. -/
theorem chkcalValidatesDenominators : Obligations.ChkcalValidatesDenominators := by
  refine ⟨stands _, fun s h2 h3 t2 t3 eqh2 eqh3 eqt2 eqt3 => ?_⟩
  change execChkcal s = _
  rw [execChkcal, eqh3, eqh2, eqt3, eqt2]
  exact congrArg _ (if_congr denominatorZero_iff (s.raise_conversionDomainError 0xFF false) rfl)

end Sys2Proof.Machine

/-! SUPPORT. The integers the block reads out of bytes and words (41_converter R100, R101, R102). -/

namespace Sys2Proof.Machine

open Sys2Proof

theorem sext16_of_lt {v : Word} (h : v.toNat < 32768) : sext16 v = v.toNat := if_pos h

theorem sext16_of_le {v : Word} (h : 32768 ≤ v.toNat) : sext16 v = (v.toNat : Int) - 65536 := if_neg (not_lt.2 h)

theorem sext16_range (v : Word) : -32768 ≤ sext16 v ∧ sext16 v ≤ 32767 := by
  have := v.isLt
  obtain low | high := Nat.lt_or_ge v.toNat 32768
  · rw [sext16_of_lt low]; omega
  · rw [sext16_of_le high]; omega

/-- Settles O23: by the two branches of `sext16`. -/
theorem signExtensionRule : Obligations.SignExtensionRule :=
  ⟨fun v => ⟨sext16_of_lt, sext16_of_le, sext16_range v⟩, rfl, rfl, rfl, rfl, rfl⟩

/-- Bits 7:1 are the quotient by 2, which fits 7 bits. -/
theorem halve_toNat (b : Byte) : (halve b).toNat = b.toNat / 2 := by
  rw [halve, BitVec.extractLsb'_toNat, Nat.shiftRight_eq_div_pow]
  omega

/-- Settles O24: the fields are those of `packedT0_toNat` and `packedT1_toNat`. -/
theorem halvingAndUnpacking : Obligations.HalvingAndUnpacking := by
  refine ⟨halve_toNat, fun m l => ⟨?_, ?_⟩⟩
  · rw [packedT0_toNat, toNat_and_three, unpack10]
  · rw [packedT1_toNat, toNat_and_twelve, unpack10]
    omega

end Sys2Proof.Machine

/-! SUPPORT. The conversion ops (41_converter R110 to R115): the data reads when neither `TERM` nor `RESET` comes around them, the clamp,
and the conversions with their operands present. -/

namespace Sys2Proof.Machine

open Sys2Proof

/-! ### The data reads -/

theorem State.raise_busIoError (s : State) (addr : Byte) (rw : Bool) : s.raise .busIoError addr rw =
    { s with hs := .idle, ph := 0x1E, err := s.errNow 0x30 addr rw, trace := s.trace ++ [.log (s.errNow 0x30 addr rw)] } := rfl

/-- A `BusIoError` right after a read, the read's event `e` last on the trace. -/
theorem State.raise_busIoError_afterRead (s : State) (addr : Byte) (e : Event) :
    ({ s with env := s.afterRead, trace := s.trace ++ [e] } : State).raise .busIoError addr false = s.sampleFailed addr e := by
  rw [State.raise_busIoError, List.append_assoc]
  rfl

section

variable {s : State} {a : Byte}

theorem dataRead_ok (fits : a.toNat + 1 < 128) {b0 b1 : Byte} (h : s.repliesPair a (some (b0, b1))) (k : Word → State → State) :
    onCells a 2 (.next (s.dataPair a k)) =
      .next (k (pairWord b0 b1) { s with env := s.afterRead, trace := s.trace ++ [.r2 s.cfg.devAddr (s.cfg.incByte a) (some (b0, b1))] }) := by
  rw [onCells_of_le fits, State.dataPair, State.memRead2_quiet h]
  rfl

theorem dataRead_err (fits : a.toNat + 1 < 128) (h : s.repliesPair a none) (k : Word → State → State) :
    onCells a 2 (.next (s.dataPair a k)) =
      .next (s.sampleFailed (s.cfg.incByte a) (.r2 s.cfg.devAddr (s.cfg.incByte a) none)) := by
  rw [onCells_of_le fits, State.dataPair, State.memRead2_quiet h, Option.map_none, State.raise_busIoError_afterRead]

end

/-- Settles O9: the two replies of a data read. -/
theorem rdhumReadsUnsignedSample : Obligations.RdhumReadsUnsignedSample := by
  refine ⟨stands _, fun s ok => ?_⟩
  have fits : s.cfg.aHum.toNat + 1 < 128 := Cfg.pair_lt ok (by simp [Cfg.pairBases])
  exact ⟨fun b0 b1 h => ⟨_, pairWord_toNat b0 b1, dataRead_ok fits h _⟩, fun h => dataRead_err fits h _⟩

/-- Settles O10: the two replies of a data read; at 0x1A the invariant ties `HS` to `Idle`. -/
theorem rdtempReadsPattern : Obligations.RdtempReadsPattern := by
  refine ⟨stands _, fun s inv ph => ?_, fun s ok => ?_⟩
  · obtain ⟨-, -, regs⟩ := s.inv_iff.1 inv
    obtain ⟨heater, -⟩ := (State.regInv_cycle (by rw [ph]; rfl)).1 regs
    exact ((State.heaterPart_outside (by rw [ph]; decide)).1 heater).1
  · have fits : s.cfg.aTemp.toNat + 1 < 128 := Cfg.pair_lt ok (by simp [Cfg.pairBases])
    exact ⟨fun b0 b1 h => ⟨_, pairWord_toNat b0 b1, dataRead_ok fits h _⟩, fun h => dataRead_err fits h _⟩

/-! ### The conversions -/

theorem convertible_of_valid {low high : Word} (apart : high ≠ low) (o : Out) : convertible true low high o = o := if_neg apart

/-- In the cycle the calibration is valid, and one that may be used (10_state R35 a, b). -/
theorem State.calibrated_of_inCycle {s : State} (inv : s.inv = true) (hp : inCycle s.ph = true) :
    s.f.calValid = true ∧ s.cal.usable = true := by
  obtain ⟨-, -, regs⟩ := s.inv_iff.1 inv
  obtain ⟨-, ⟨-, valid, -, usable⟩, -⟩ := (State.regInv_cycle hp).1 regs
  exact ⟨valid, usable⟩

/-- Settles O11: with the five operands there, by the check on the calibration. -/
theorem cvhumConvertsHumidity : Obligations.CvhumConvertsHumidity := by
  refine ⟨stands _, fun s inv ph => s.calibrated_of_inCycle inv ?_, fun s raw h2 h3 h0 h1 hraw eq0 eq1 eq2 eq3 valid apart => ?_⟩
  · rcases ph with ph | ph <;> rw [ph] <;> rfl
  · refine ⟨_, rfl, fun num => by rw [num]; rfl, ?_⟩
    change execCvhum s = _
    rw [execCvhum, hraw, eq0, eq1, eq2, eq3, valid]
    exact convertible_of_valid apart _

/-- Settles O13: with the five operands there, by the check on the calibration. -/
theorem cvtcConvertsTemperature : Obligations.CvtcConvertsTemperature := by
  refine ⟨stands _, fun s inv ph => s.calibrated_of_inCycle inv (by rw [ph]; rfl),
    fun s raw t2 t3 t0 t1 hraw eq0 eq1 eq2 eq3 valid apart => ⟨_, rfl, fun num => by rw [num]; rfl, ?_⟩⟩
  change execCvtc s = _
  rw [execCvtc, hraw, eq0, eq1, eq2, eq3, valid]
  exact convertible_of_valid apart _

/-- Settles O14: the Celsius value is the one operand. -/
theorem cvtfConvertsToFahrenheit : Obligations.CvtfConvertsToFahrenheit := by
  refine ⟨stands _, fun s c eqc => ⟨_, rfl, fun num => by rw [num]; rfl, ?_⟩⟩
  change execCvtf s = _
  rw [execCvtf, eqc]
  rfl

end Sys2Proof.Machine

/-! SUPPORT. The clamp of the reported humidity (41_converter R112) in rational numbers. -/

namespace Sys2Proof

theorem F32.toRat_val_zero : F32.zero.val.toRat = 0 := by
  rw [F32.toRat_val, show F32.zero.mag.val = 0 from rfl, F32.magVal_zero, mul_zero]

theorem F32.toRat_val_hundred : F32.hundred.val.toRat = 100 := by
  rw [F32.toRat_val, show F32.hundred.mag.val = 0x42C80000 from rfl]
  norm_num [F32.magVal, F32.magScaled, F32.hundred, F32.make]

theorem F32.val_lt_ofInt (u : F32) (n : Int) : u.val.lt (Frac.ofInt n) = true ↔ u.val.toRat < n := by
  rw [Frac.lt_iff (Nat.two_pow_pos 150) Nat.one_pos, Frac.toRat_ofInt]

theorem F32.ofInt_lt_val (u : F32) (n : Int) : (Frac.ofInt n).lt u.val = true ↔ (n : ℚ) < u.val.toRat := by
  rw [Frac.lt_iff Nat.one_pos (Nat.two_pow_pos 150), Frac.toRat_ofInt]

theorem clamp100_eq (u : F32) :
    clamp100 u = if u.val.toRat < 0 then F32.zero else if 100 < u.val.toRat then F32.hundred else u := by
  unfold clamp100
  simp only [F32.val_lt_ofInt, F32.ofInt_lt_val, Int.cast_zero, Int.cast_ofNat]

/-- Settles O12: the copy is `clamp100`, branch by branch. -/
theorem clamphLimitsReportedCopy : Obligations.ClamphLimitsReportedCopy := by
  refine ⟨Machine.stands _, rfl, F32.toRat_val_zero, rfl, F32.toRat_val_hundred, fun s u equ => ⟨clamp100 u, ?_, ?_, ?_, ?_⟩⟩
  · exact fun below => by rw [clamp100_eq, if_pos below]
  · exact fun above => by rw [clamp100_eq, if_neg (by linarith), if_pos above]
  · exact fun low high => by rw [clamp100_eq, if_neg low.not_gt, if_neg high.not_gt]
  · change Machine.execClamph s = _
    rw [Machine.execClamph, equ]
    rfl

end Sys2Proof

/-! SUPPORT. Interpolation between two counts (41_converter R104, R105): the formula over the rationals, its bound, its two anchor points. -/

namespace Sys2Proof

open Machine

/-- The shape of `hum_q` and `tc_q`: `slope * (x - low) / (high - low) + base`. -/
def Frac.interpolate (slope base : Frac) (x low high : Int) : Frac :=
  ((slope.mul ((Frac.ofInt x).sub (Frac.ofInt low))).div ((Frac.ofInt high).sub (Frac.ofInt low))).add base

theorem humQ_eq_interpolate (raw h0 h1 : Nat) (h2 h3 : Int) :
    humQ raw h0 h1 h2 h3 = ((Frac.ofInt h1).sub (Frac.ofInt h0)).interpolate (Frac.ofInt h0) raw h2 h3 := rfl

theorem tcQ_eq_interpolate (rawS : Int) (t0 t1 : Nat) (t2 t3 : Int) :
    tcQ rawS t0 t1 t2 t3 =
      (((Frac.ofInt t1).sub (Frac.ofInt t0)).div (Frac.ofInt 8)).interpolate ((Frac.ofInt t0).div (Frac.ofInt 8)) rawS t2 t3 := rfl

theorem Frac.toRat_ofInt_sub (a b : Int) : ((Frac.ofInt a).sub (Frac.ofInt b)).toRat = (a : ℚ) - b := by
  rw [Frac.toRat_sub Nat.one_ne_zero Nat.one_ne_zero, Frac.toRat_ofInt, Frac.toRat_ofInt]

theorem Frac.num_ofInt_sub (a b : Int) : ((Frac.ofInt a).sub (Frac.ofInt b)).num = a - b := by
  simp [Frac.sub, Frac.ofInt]

section

variable {slope base : Frac} {low high : Int} (hs : 0 < slope.den) (hb : 0 < base.den) (apart : high ≠ low)
include hs hb apart

theorem Frac.interpolate_den_pos (x : Int) : 0 < (slope.interpolate base x low high).den := by
  have := Int.natAbs_pos.2 (sub_ne_zero.2 apart)
  rw [← Frac.num_ofInt_sub] at this
  unfold Frac.interpolate Frac.add Frac.div Frac.mul
  exact Nat.mul_pos (Nat.mul_pos (Nat.mul_pos hs Nat.one_pos) this) hb

theorem Frac.toRat_interpolate (x : Int) :
    (slope.interpolate base x low high).toRat = slope.toRat * ((x : ℚ) - low) / ((high : ℚ) - low) + base.toRat := by
  have hden : (slope.mul ((Frac.ofInt x).sub (Frac.ofInt low))).den ≠ 0 := (Nat.mul_pos hs Nat.one_pos).ne'
  have hnum : ((Frac.ofInt high).sub (Frac.ofInt low)).num ≠ 0 := by rw [Frac.num_ofInt_sub]; exact sub_ne_zero.2 apart
  have hdiv : ((slope.mul ((Frac.ofInt x).sub (Frac.ofInt low))).div ((Frac.ofInt high).sub (Frac.ofInt low))).den ≠ 0 :=
    mul_ne_zero hden (Int.natAbs_ne_zero.2 hnum)
  rw [Frac.interpolate, Frac.toRat_add hdiv hb.ne', Frac.toRat_div hden hnum, Frac.toRat_mul, Frac.toRat_ofInt_sub, Frac.toRat_ofInt_sub]

theorem Frac.toRat_interpolate_low : (slope.interpolate base low low high).toRat = base.toRat := by
  rw [Frac.toRat_interpolate hs hb apart, sub_self, mul_zero, zero_div, zero_add]

theorem Frac.toRat_interpolate_high : (slope.interpolate base high low high).toRat = slope.toRat + base.toRat := by
  have : (high : ℚ) - low ≠ 0 := sub_ne_zero.2 (by exact_mod_cast apart)
  rw [Frac.toRat_interpolate hs hb apart, mul_div_cancel_right₀ _ this]

/-- Two different counts are at least one apart, so the division makes nothing larger. -/
theorem Frac.abs_toRat_interpolate_le (x : Int) :
    |(slope.interpolate base x low high).toRat| ≤ |slope.toRat| * |(x : ℚ) - low| + |base.toRat| := by
  have one_le : (1 : ℚ) ≤ |(high : ℚ) - low| := by exact_mod_cast Int.one_le_abs (sub_ne_zero.2 apart)
  rw [Frac.toRat_interpolate hs hb apart, ← abs_mul]
  refine (abs_add_le _ _).trans (add_le_add_left ?_ _)
  rw [abs_div]
  exact div_le_self (abs_nonneg _) one_le

end

end Sys2Proof

/-! SUPPORT. `rn32` at the binary32 values (00_scope R8): it passes none of them, so it keeps those with 17 fractional bits, and it decides a
comparison with a whole number for every quotient that is such a step away. -/

namespace Sys2Proof

/-! ### No value is passed -/

section

variable {q : Frac} {x : F32} (hd : 0 < q.den) (hq : |q.toRat| ≤ (2 ^ 24 - 1) * 2 ^ 104)
include hd hq

theorem rn32_le_of_le (h : q.toRat ≤ x.val.toRat) : (rn32 q).val.toRat ≤ x.val.toRat := by
  obtain ⟨near, -⟩ := roundingIsNearestTiesEven q x hd hq
  rw [abs_of_nonneg (sub_nonneg.2 h)] at near
  linarith [le_abs_self ((rn32 q).val.toRat - q.toRat)]

theorem le_rn32_of_le (h : x.val.toRat ≤ q.toRat) : x.val.toRat ≤ (rn32 q).val.toRat := by
  obtain ⟨near, -⟩ := roundingIsNearestTiesEven q x hd hq
  rw [abs_of_nonpos (sub_nonpos.2 h)] at near
  linarith [neg_abs_le ((rn32 q).val.toRat - q.toRat)]

end

/-! ### The values with 17 fractional bits -/

/-- A significand below `2^24` has a magnitude word: shifted up to its hidden bit, with the exponent that undoes the shift. -/
theorem F32.exists_magVal_eq {m : ℕ} (hm : m < 2 ^ 24) : ∃ j ≤ F32.maxMag, F32.magVal j = m / 2 ^ 17 := by
  obtain rfl | pos := Nat.eq_zero_or_pos m
  · exact ⟨0, Nat.zero_le _, by rw [F32.magVal_zero, Nat.cast_zero, zero_div]⟩
  obtain ⟨l, small, le_m, m_lt⟩ : ∃ l < 24, 2 ^ l ≤ m ∧ m < 2 ^ (l + 1) :=
    ⟨_, (Nat.log2_lt pos.ne').2 hm, Nat.log2_self_le pos.ne', Nat.lt_log2_self⟩
  have hidden : 2 ^ 23 ≤ m * 2 ^ (23 - l) := by
    calc 2 ^ 23 = 2 ^ l * 2 ^ (23 - l) := by rw [← pow_add, Nat.add_sub_cancel' (Nat.le_of_lt_succ small)]
      _ ≤ m * 2 ^ (23 - l) := Nat.mul_le_mul_right _ le_m
  have carry : m * 2 ^ (23 - l) ≤ 2 ^ 24 := by
    calc m * 2 ^ (23 - l) ≤ 2 ^ (l + 1) * 2 ^ (23 - l) := Nat.mul_le_mul_right _ m_lt.le
      _ = 2 ^ 24 := by rw [← pow_add]; congr 1; omega
  have scaled : F32.magScaled ((109 + l) * 2 ^ 23 + m * 2 ^ (23 - l)) = m * 2 ^ 133 := by
    rw [F32.magScaled_mul_add carry (.inr hidden), mul_assoc, ← pow_add]
    congr 2
    omega
  refine ⟨(109 + l) * 2 ^ 23 + m * 2 ^ (23 - l), by unfold F32.maxMag; omega, ?_⟩
  rw [F32.magVal, scaled]
  push_cast
  ring

/-- Every number of 24 significant bits, 17 of them fractional, is a value of either sign. -/
theorem F32.exists_val_eq {m : ℤ} (hm : |m| < 2 ^ 24) : ∃ x : F32, x.val.toRat = m / 2 ^ 17 := by
  obtain ⟨j, inRange, value⟩ := F32.exists_magVal_eq (m := m.natAbs) (by rw [abs_lt] at hm; omega)
  refine ⟨⟨decide (m < 0), ⟨j, Nat.lt_succ_of_le inRange⟩⟩, ?_⟩
  rw [F32.toRat_val, value, Nat.cast_natAbs, Int.cast_abs]
  obtain neg | nonneg := lt_or_ge m 0
  · rw [if_pos (decide_eq_true neg), abs_of_neg (by exact_mod_cast neg)]
    ring
  · rw [if_neg (by simpa using nonneg), abs_of_nonneg (by exact_mod_cast nonneg), one_mul]

theorem toRat_rn32_of_eq {q : Frac} (hd : 0 < q.den) {m : ℤ} (hm : |m| < 2 ^ 24) (h : q.toRat = m / 2 ^ 17) :
    (rn32 q).val.toRat = q.toRat := by
  obtain ⟨x, value⟩ := F32.exists_val_eq hm
  have same : q.toRat = x.val.toRat := h.trans value.symm
  have inRange : |q.toRat| ≤ (2 ^ 24 - 1) * 2 ^ 104 := by
    have : |(m : ℚ)| ≤ 2 ^ 24 := by exact_mod_cast hm.le
    rw [h, abs_div, abs_of_pos (by positivity : (0 : ℚ) < 2 ^ 17), div_le_iff₀ (by positivity)]
    linarith
  rw [same]
  exact le_antisymm (rn32_le_of_le hd inRange same.le) (le_rn32_of_le hd inRange same.ge)

/-! ### Comparison with a whole number -/

section

variable {q : Frac} (hd : 0 < q.den) (hq : |q.toRat| ≤ (2 ^ 24 - 1) * 2 ^ 104) {n : ℤ} (hn : |n| < 2 ^ 7)
  (gap : q.toRat ≠ n → 1 / 2 ^ 17 ≤ |q.toRat - n|)
include hd hq hn gap

/-- A quotient above `n` is no less than the value one step above `n`. -/
theorem lt_rn32_iff : (n : ℚ) < (rn32 q).val.toRat ↔ (n : ℚ) < q.toRat := by
  obtain ⟨x, hx⟩ := F32.exists_val_eq (m := n * 2 ^ 17) (by rw [abs_lt] at *; omega)
  obtain ⟨y, hy⟩ := F32.exists_val_eq (m := n * 2 ^ 17 + 1) (by rw [abs_lt] at *; omega)
  push_cast at hx hy
  constructor
  · refine fun above => lt_of_not_ge fun le => above.not_ge ?_
    linarith [rn32_le_of_le hd hq (x := x) (by linarith)]
  · intro above
    have step := gap above.ne'
    rw [abs_of_pos (sub_pos.2 above)] at step
    linarith [le_rn32_of_le hd hq (x := y) (by linarith)]

/-- A quotient below `n` is no more than the value one step below `n`. -/
theorem rn32_lt_iff : (rn32 q).val.toRat < n ↔ q.toRat < n := by
  obtain ⟨x, hx⟩ := F32.exists_val_eq (m := n * 2 ^ 17) (by rw [abs_lt] at *; omega)
  obtain ⟨y, hy⟩ := F32.exists_val_eq (m := n * 2 ^ 17 - 1) (by rw [abs_lt] at *; omega)
  push_cast at hx hy
  constructor
  · refine fun below => lt_of_not_ge fun ge => below.not_ge ?_
    linarith [le_rn32_of_le hd hq (x := x) (by linarith)]
  · intro below
    have step := gap below.ne
    rw [abs_of_neg (sub_neg.2 below)] at step
    linarith [rn32_le_of_le hd hq (x := y) (by linarith)]

end

end Sys2Proof

/-! SUPPORT. Humidity and temperature (41_converter R104, R105, R107, R117, R118): interpolation with the block's anchors and counts. -/

namespace Sys2Proof

open Machine

/-! ### The exact formulas -/

theorem Frac.toRat_div_eight (n : Int) : ((Frac.ofInt n).div (Frac.ofInt 8)).toRat = (n : ℚ) / 8 := by
  rw [Frac.toRat_div Nat.one_ne_zero (by decide), Frac.toRat_ofInt, Frac.toRat_ofInt, Int.cast_ofNat]

/-- Eighths of a degree, the slope of `tc_q`. -/
theorem Frac.toRat_sub_div_eight (a b : Int) :
    (((Frac.ofInt a).sub (Frac.ofInt b)).div (Frac.ofInt 8)).toRat = ((a : ℚ) - b) / 8 := by
  rw [Frac.toRat_div Nat.one_ne_zero (by decide), Frac.toRat_ofInt_sub, Frac.toRat_ofInt, Int.cast_ofNat]

section

variable {low high : Int} (apart : high ≠ low)
include apart

theorem humQ_den_pos (raw h0 h1 : Nat) : 0 < (humQ raw h0 h1 low high).den := by
  rw [humQ_eq_interpolate]
  exact Frac.interpolate_den_pos Nat.one_pos Nat.one_pos apart _

theorem tcQ_den_pos (rawS : Int) (t0 t1 : Nat) : 0 < (tcQ rawS t0 t1 low high).den := by
  rw [tcQ_eq_interpolate]
  exact Frac.interpolate_den_pos (Nat.zero_lt_succ 7) (Nat.zero_lt_succ 7) apart _

theorem toRat_humQ (raw h0 h1 : Nat) :
    (humQ raw h0 h1 low high).toRat = ((h1 : ℚ) - h0) * ((raw : ℚ) - low) / ((high : ℚ) - low) + h0 := by
  rw [humQ_eq_interpolate, Frac.toRat_interpolate Nat.one_pos Nat.one_pos apart, Frac.toRat_ofInt_sub, Frac.toRat_ofInt]
  rfl

theorem toRat_tcQ (rawS : Int) (t0 t1 : Nat) :
    (tcQ rawS t0 t1 low high).toRat = (((t1 : ℚ) - t0) / 8) * ((rawS : ℚ) - low) / ((high : ℚ) - low) + (t0 : ℚ) / 8 := by
  rw [tcQ_eq_interpolate, Frac.toRat_interpolate (Nat.zero_lt_succ 7) (Nat.zero_lt_succ 7) apart, Frac.toRat_sub_div_eight,
    Frac.toRat_div_eight]
  rfl

theorem abs_toRat_humQ_le (raw h0 h1 : Nat) :
    |(humQ raw h0 h1 low high).toRat| ≤ |(h1 : ℚ) - h0| * |(raw : ℚ) - low| + h0 := by
  have bound := Frac.abs_toRat_interpolate_le (slope := (Frac.ofInt h1).sub (Frac.ofInt h0)) (base := Frac.ofInt h0)
    Nat.one_pos Nat.one_pos apart raw
  rw [Frac.toRat_ofInt_sub, Frac.toRat_ofInt, Int.cast_natCast, Int.cast_natCast, Int.cast_natCast, Nat.abs_cast] at bound
  exact bound

theorem abs_toRat_tcQ_le (rawS : Int) (t0 t1 : Nat) :
    |(tcQ rawS t0 t1 low high).toRat| ≤ |((t1 : ℚ) - t0) / 8| * |(rawS : ℚ) - low| + t0 / 8 := by
  have bound := Frac.abs_toRat_interpolate_le (slope := ((Frac.ofInt t1).sub (Frac.ofInt t0)).div (Frac.ofInt 8))
    (base := (Frac.ofInt t0).div (Frac.ofInt 8)) (Nat.zero_lt_succ 7) (Nat.zero_lt_succ 7) apart rawS
  rw [Frac.toRat_sub_div_eight, Frac.toRat_div_eight, Int.cast_natCast, Int.cast_natCast,
    abs_of_nonneg (by positivity : (0 : ℚ) ≤ t0 / 8)] at bound
  exact bound

/-- R117: `hum_q` at the two humidity counts. -/
theorem humQ_anchors {raw : Nat} (h0 h1 : Nat) :
    ((raw : Int) = low → (humQ raw h0 h1 low high).toRat = h0) ∧ ((raw : Int) = high → (humQ raw h0 h1 low high).toRat = h1) := by
  rw [humQ_eq_interpolate]
  refine ⟨fun same => ?_, fun same => ?_⟩
  · rw [same, Frac.toRat_interpolate_low Nat.one_pos Nat.one_pos apart, Frac.toRat_ofInt, Int.cast_natCast]
  · rw [same, Frac.toRat_interpolate_high Nat.one_pos Nat.one_pos apart, Frac.toRat_ofInt_sub, Frac.toRat_ofInt, sub_add_cancel,
      Int.cast_natCast]

/-- R117: `tc_q` at the two temperature counts. -/
theorem tcQ_anchors (t0 t1 : Nat) :
    (tcQ low t0 t1 low high).toRat = (t0 : ℚ) / 8 ∧ (tcQ high t0 t1 low high).toRat = (t1 : ℚ) / 8 := by
  rw [tcQ_eq_interpolate, tcQ_eq_interpolate, Frac.toRat_interpolate_low (Nat.zero_lt_succ 7) (Nat.zero_lt_succ 7) apart,
    Frac.toRat_interpolate_high (Nat.zero_lt_succ 7) (Nat.zero_lt_succ 7) apart, Frac.toRat_sub_div_eight, Frac.toRat_div_eight,
    ← add_div, sub_add_cancel]
  exact ⟨rfl, rfl⟩

/-- `hum_q` is a multiple of one over the distance of the counts, so a whole number is hit or missed by at least that. -/
theorem humQ_gap (raw h0 h1 : Nat) (near : |high - low| ≤ 2 ^ 17) (n : ℤ) (ne : (humQ raw h0 h1 low high).toRat ≠ n) :
    1 / 2 ^ 17 ≤ |(humQ raw h0 h1 low high).toRat - n| := by
  have hd : ((high - low : ℤ) : ℚ) ≠ 0 := by exact_mod_cast sub_ne_zero.2 apart
  have whole : ((humQ raw h0 h1 low high).toRat - n) * (high - low : ℤ) =
      (((h1 : ℤ) - h0) * (raw - low) + (h0 - n) * (high - low) : ℤ) := by
    rw [toRat_humQ apart]
    push_cast at hd ⊢
    field_simp
    ring
  have one_le := Int.one_le_abs (Int.cast_ne_zero.1 (whole ▸ mul_ne_zero (sub_ne_zero.2 ne) hd))
  have : (1 : ℚ) ≤ |(humQ raw h0 h1 low high).toRat - n| * |((high - low : ℤ) : ℚ)| := by
    rw [← abs_mul, whole]
    exact_mod_cast one_le
  rw [div_le_iff₀ (by positivity)]
  exact this.trans (mul_le_mul_of_nonneg_left (by exact_mod_cast near) (abs_nonneg _))

end

/-! ### The block's anchors, counts and samples -/

theorem sext16_ne {a b : Word} (h : a ≠ b) : sext16 a ≠ sext16 b := fun same => h (sext16_inj.1 same)

/-- Two sign-extended words are less than `2^16` apart. -/
theorem abs_sext16_sub_le (a b : Word) : |sext16 a - sext16 b| ≤ 65535 := by
  have := sext16_range a
  have := sext16_range b
  rw [abs_le]
  omega

theorem abs_humQ_le_of_words {h2 h3 : Word} (apart : h3 ≠ h2) (raw : Word) (h0 h1 : BitVec 7) :
    |(humQ raw.toNat h0.toNat h1.toNat (sext16 h2) (sext16 h3)).toRat| ≤ 12484608 := by
  have := h0.isLt
  have := h1.isLt
  have := raw.isLt
  have := sext16_range h2
  have slope : |(h1.toNat : ℚ) - h0.toNat| ≤ 127 := by
    exact_mod_cast (by rw [abs_le]; omega : |(h1.toNat : ℤ) - h0.toNat| ≤ 127)
  have sample : |(raw.toNat : ℚ) - sext16 h2| ≤ 98303 := by
    exact_mod_cast (by rw [abs_le]; omega : |(raw.toNat : ℤ) - sext16 h2| ≤ 98303)
  have base : (h0.toNat : ℚ) ≤ 127 := by exact_mod_cast (by omega : h0.toNat ≤ 127)
  calc _ ≤ |(h1.toNat : ℚ) - h0.toNat| * |(raw.toNat : ℚ) - sext16 h2| + h0.toNat := abs_toRat_humQ_le (sext16_ne apart) _ _ _
    _ ≤ 127 * 98303 + 127 := by gcongr
    _ = 12484608 := by norm_num

theorem abs_tcQ_lt_of_words {t2 t3 : Word} (apart : t3 ≠ t2) (raw : Word) (t0 t1 : BitVec 10) :
    |(tcQ (sext16 raw) t0.toNat t1.toNat (sext16 t2) (sext16 t3)).toRat| < 2 ^ 24 := by
  have := t0.isLt
  have := t1.isLt
  have slope : |((t1.toNat : ℚ) - t0.toNat) / 8| ≤ 1023 / 8 := by
    have : |(t1.toNat : ℚ) - t0.toNat| ≤ 1023 := by
      exact_mod_cast (by rw [abs_le]; omega : |(t1.toNat : ℤ) - t0.toNat| ≤ 1023)
    rw [abs_div, abs_of_pos (by norm_num : (0 : ℚ) < 8)]
    gcongr
  have sample : |(sext16 raw : ℚ) - sext16 t2| ≤ 65535 := by exact_mod_cast abs_sext16_sub_le raw t2
  have base : (t0.toNat : ℚ) ≤ 1023 := by exact_mod_cast (by omega : t0.toNat ≤ 1023)
  calc _ ≤ |((t1.toNat : ℚ) - t0.toNat) / 8| * |(sext16 raw : ℚ) - sext16 t2| + t0.toNat / 8 :=
        abs_toRat_tcQ_le (sext16_ne apart) _ _ _
    _ ≤ 1023 / 8 * 65535 + 1023 / 8 := by gcongr
    _ < 2 ^ 24 := by norm_num

/-- Settles O25: the formula, its bound, and a slope of 0. -/
theorem humidityFormulaExact : Obligations.HumidityFormulaExact := by
  refine fun raw h2 h3 h0 h1 apart => ⟨toRat_humQ (sext16_ne apart) _ _ _, abs_humQ_le_of_words apart raw h0 h1, fun same => ?_⟩
  rw [toRat_humQ (sext16_ne apart), same, sub_self, zero_mul, zero_div, zero_add]

theorem toRat_tfQ {c : Frac} (hc : c.den ≠ 0) : (tfQ c).toRat = c.toRat * (9 / 5) + 32 := by
  have hden : (c.mul ⟨9, 5⟩).den ≠ 0 := mul_ne_zero hc (by decide)
  rw [tfQ, Frac.toRat_add hden Nat.one_ne_zero, Frac.toRat_mul, Frac.toRat_ofInt]
  norm_num [Frac.toRat]

/-- Settles O26: the formula, its bound, a slope of 0; and `tf_q`, the denominator of a binary32 value being a power of two. -/
theorem temperatureFormulasExact : Obligations.TemperatureFormulasExact := by
  refine ⟨fun raw t2 t3 t0 t1 apart => ⟨toRat_tcQ (sext16_ne apart) _ _ _, abs_tcQ_lt_of_words apart raw t0 t1, fun same => ?_⟩,
    fun c => toRat_tfQ (Nat.two_pow_pos 150).ne'⟩
  rw [toRat_tcQ (sext16_ne apart), same, sub_self, zero_div, zero_mul, zero_div, zero_add]

/-! ### The anchors and the thresholds under the default numerics -/

/-- A humidity anchor in %RH keeps its value when rounded. -/
theorem toRat_rn32_of_eq_humidityAnchor {q : Frac} (hd : 0 < q.den) (h : BitVec 7) (eq : q.toRat = h.toNat) :
    (rn32 q).val.toRat = h.toNat := by
  have := h.isLt
  rw [toRat_rn32_of_eq hd (m := h.toNat * 2 ^ 17) (by rw [abs_lt]; omega) (by rw [eq]; push_cast; ring), eq]

/-- A temperature anchor in eighths of a degree keeps its value when rounded. -/
theorem toRat_rn32_of_eq_temperatureAnchor {q : Frac} (hd : 0 < q.den) (t : BitVec 10) (eq : q.toRat = (t.toNat : ℚ) / 8) :
    (rn32 q).val.toRat = (t.toNat : ℚ) / 8 := by
  have := t.isLt
  rw [toRat_rn32_of_eq hd (m := t.toNat * 2 ^ 14) (by rw [abs_lt]; omega) (by rw [eq]; push_cast; ring), eq]

/-- Settles O28: the exact formulas hit the anchors, and `rn32` keeps those. -/
theorem anchorsAreExact : Obligations.AnchorsAreExact := by
  refine ⟨fun h2 h3 h0 h1 raw apart _ => ?_, fun t2 t3 t0 t1 apart => ?_⟩
  · obtain ⟨low, high⟩ := humQ_anchors (raw := raw) (sext16_ne apart) h0.toNat h1.toNat
    have hd := humQ_den_pos (sext16_ne apart) raw h0.toNat h1.toNat
    exact ⟨fun same => ⟨low same, toRat_rn32_of_eq_humidityAnchor hd h0 (low same)⟩,
      fun same => ⟨high same, toRat_rn32_of_eq_humidityAnchor hd h1 (high same)⟩⟩
  · obtain ⟨low, high⟩ := tcQ_anchors (sext16_ne apart) t0.toNat t1.toNat
    exact ⟨low, high, toRat_rn32_of_eq_temperatureAnchor (tcQ_den_pos (sext16_ne apart) _ _ _) t0 low,
      toRat_rn32_of_eq_temperatureAnchor (tcQ_den_pos (sext16_ne apart) _ _ _) t1 high⟩

/-- Settles O29: `hum_q` keeps a step of `2^-17` from every whole number it misses. -/
theorem thresholdAgreesWithExactHumidity : Obligations.ThresholdAgreesWithExactHumidity := by
  intro raw h2 h3 h0 h1 apart
  have hd := humQ_den_pos (sext16_ne apart) raw.toNat h0.toNat h1.toNat
  have inRange : |(humQ raw.toNat h0.toNat h1.toNat (sext16 h2) (sext16 h3)).toRat| ≤ (2 ^ 24 - 1) * 2 ^ 104 :=
    (abs_humQ_le_of_words apart raw h0 h1).trans (by norm_num)
  have gap := humQ_gap (sext16_ne apart) raw.toNat h0.toNat h1.toNat ((abs_sext16_sub_le h3 h2).trans (by norm_num))
  exact ⟨by exact_mod_cast lt_rn32_iff hd inRange (n := 95) (by decide) (gap 95),
    by exact_mod_cast lt_rn32_iff hd inRange (n := 100) (by decide) (gap 100),
    by exact_mod_cast rn32_lt_iff hd inRange (n := 0) (by decide) (gap 0)⟩

end Sys2Proof

/-! SUPPORT. The heater ops at their phases (42_heater R121 to R126): the two that branch on the humidity, the dwell, and the
read-modify-write when neither `TERM` nor `RESET` comes around it. -/

namespace Sys2Proof.Machine

open Sys2Proof

/-! ### The branches on the humidity -/

theorem overThreshold_iff (c : Cfg) (u : F32) : overThreshold c u = true ↔ 95 < u.val.toRat := u.ofInt_lt_val 95

/-- `SATCHK` with its operand there (R121). -/
theorem exec_satchk {s : State} {u : F32} (equ : s.phy.humU = some u) :
    exec .satchk s = .next { s with
      f := { s.f with satUnres := false }, iter := 0, ph := if 95 < u.val.toRat then 0x13 else 0x19 } := by
  change execSatchk s = _
  rw [execSatchk, equ]
  exact congrArg (fun p => Host.Outcome.next (State.goto _ p)) (if_congr (overThreshold_iff s.cfg u) rfl rfl)

/-- Settles O15: `SATCHK` goes by `exec_satchk`, above 95 and not. -/
theorem satchkBranchesAbove95 : Obligations.SatchkBranchesAbove95 :=
  ⟨stands _, fun _ _ equ => ⟨fun above => by rw [exec_satchk equ, if_pos above],
    fun within => by rw [exec_satchk equ, if_neg within.not_gt]⟩⟩

theorem State.raise_heaterSaturationUnresolved (s : State) (addr : Byte) (rw : Bool) : s.raise .heaterSaturationUnresolved addr rw =
    { s with err := s.errNow 0x42 addr rw, trace := s.trace ++ [.log (s.errNow 0x42 addr rw)] } := rfl

/-- `RETRY` with its operand there (R126). -/
theorem exec_retry {s : State} {u : F32} (equ : s.phy.humU = some u) :
    exec .retry s = .next
      (if 95 < u.val.toRat then
        if s.iter.toNat < s.cfg.heaterMaxIter then s.goto 0x13
        else (((s.setSatUnres true).setHs .idle).raise .heaterSaturationUnresolved 0xFF false).goto 0x19
      else (s.setHs .idle).goto 0x19) := by
  change execRetry s = _
  rw [execRetry, equ]
  exact congrArg _ (if_congr (overThreshold_iff s.cfg u) rfl rfl)

/-- The heater state and the iteration count of a state of the invariant go with its phase. -/
theorem State.heaterPart_of_inv {s : State} (inv : s.inv = true) : s.heaterPart = true := by
  obtain ⟨-, -, regs⟩ := s.inv_iff.1 inv
  simp only [State.regInv, Bool.and_eq_true] at regs
  obtain ⟨⟨⟨⟨⟨-, heater⟩, -⟩, -⟩, -⟩, -⟩ := regs
  exact heater

/-- Settles O19: the three branches of `exec_retry`. -/
theorem retryLoopsWithinBudget : Obligations.RetryLoopsWithinBudget := by
  refine ⟨stands _, fun s inv => s.iter_le_of_heaterPart (s.heaterPart_of_inv inv), fun s u equ => ⟨fun above left => ?_,
    fun above spent => ?_, fun within => ?_⟩⟩
  · rw [exec_retry equ, if_pos above, if_pos left]
    rfl
  · rw [exec_retry equ, if_pos above, if_neg spent.not_gt, State.raise_heaterSaturationUnresolved]
    rfl
  · rw [exec_retry equ, if_neg within.not_gt]
    rfl

/-! ### The dwell -/

/-- A wait of `n` ticks that `TERM` cuts short keeps the rest of them (60_exceptions R170, R175). -/
theorem State.wait_loadTimer_term (s : State) (n : Nat) (k : State → State) (h : s.nextWait.what = .term) :
    (s.loadTimer n).wait k = { s with
      tmr := n - min s.nextWait.tick n, f := { s.f with term := true }, env := s.afterWait
      trace := s.trace ++ [.wait (min s.nextWait.tick n)] } := by
  have cut : (s.loadTimer n).nextWait.what = .term := h
  rw [State.wait, if_neg (by simp [cut]), cut, State.ticks_eq]
  rfl

/-- Settles O17: the whole wait and the wait cut short, of the timer loaded with the dwell's ticks. -/
theorem dwellWaitsItsTicks : Obligations.DwellWaitsItsTicks := by
  refine ⟨stands _, fun s inv ph => ?_, fun s => ⟨fun whole => ?_, fun cut within => ?_⟩⟩
  · obtain ⟨tied, -⟩ := (State.heaterPart_inside (by rw [ph]; decide) (by rw [ph]; decide)).1 (s.heaterPart_of_inv inv)
    rw [tied, ph]
    rfl
  · exact congrArg Host.Outcome.next ((s.loadTimer s.cfg.dwellTicks).wait_full _ whole)
  · refine (congrArg Host.Outcome.next (s.wait_loadTimer_term (s.cfg.dwellS * s.cfg.tickHz) _ cut)).trans ?_
    rw [Nat.min_eq_left within]

/-! ### The read-modify-write -/

section

variable {s : State} {change : Byte → Byte} {done : Option Bool → State → State} (fits : s.cfg.aHeater.toNat < 128)
include fits

/-- After a failed read there is no write (R122, R125). -/
theorem heaterRmw_read_err (h : s.repliesByte s.cfg.aHeater none) :
    onCells s.cfg.aHeater 1 (.next (s.heaterRmw change done)) =
      .next (done (some false) { s with
        env := s.afterRead, trace := s.trace ++ [.r1 s.cfg.devAddr s.cfg.aHeater none] }) := by
  rw [onCells_of_le fits, State.heaterRmw, State.memRead1_quiet h]

/-- After a read of `b` the byte written back is `change b`, and `HREG` holds `b` whatever the write's answer. -/
theorem heaterRmw_write {b : Byte} (h : s.repliesByte s.cfg.aHeater (some b)) (quiet : busQuiet s.secondBus = true) {ok : Bool}
    (answer : s.secondBus.ok = ok) :
    onCells s.cfg.aHeater 1 (.next (s.heaterRmw change done)) =
      .next (done (if ok then none else some true) { s with
        hreg := some b, env := s.afterRmw s.cfg.aHeater (change b)
        trace := s.trace ++ [.r1 s.cfg.devAddr s.cfg.aHeater (some b), .w1 s.cfg.devAddr s.cfg.aHeater (change b) ok] }) := by
  have written : State.repliesWrite { s with
      hreg := some b, env := s.afterRead, trace := s.trace ++ [.r1 s.cfg.devAddr s.cfg.aHeater (some b)] } ok := ⟨quiet, answer⟩
  rw [onCells_of_le fits, State.heaterRmw, State.memRead1_quiet h]
  refine (congrArg Host.Outcome.next (State.memWrite1_quiet written _ _ _)).trans ?_
  rw [List.append_assoc]
  rfl

end

/-- The block once `HTRON` has begun an iteration, before its read (R122). -/
def State.heatingBegun (s : State) : State := { s.setHs .heating with iter := s.iter + 1 }

section

variable (s : State) (hreg : Option Byte) (env : Env) (es : List Event) (addr : Byte) (rw : Bool)

/-- What a failed enable leaves after the transactions `es` (R122). -/
theorem State.enableFailed_after :
    ({ s with hreg := hreg, env := env, trace := s.trace ++ es } : State).raise .heaterEnableFailed addr rw = { s with
      hreg := hreg, env := env, err := s.errNow 0x40 addr rw, trace := s.trace ++ (es ++ [.log (s.errNow 0x40 addr rw)]) } := by
  rw [← List.append_assoc]
  rfl

/-- What a failed disable leaves after the transactions `es` (R125). -/
theorem State.disableFailed_after :
    ((({ s with hreg := hreg, env := env, trace := s.trace ++ es } : State).setHtrUnsafe true).setHs .idle).raise
        .heaterDisableFailed addr rw = { s with
      hs := .idle, f := { s.f with htrUnsafe := true }, hreg := hreg, ph := 0x1E, err := s.errNow 0x41 addr rw
      env := env, trace := s.trace ++ (es ++ [.log (s.errNow 0x41 addr rw)]) } := by
  rw [← List.append_assoc]
  rfl

end

/-- Settles O16: the failed read, and the write answered either way, of the block that has begun one more iteration. -/
theorem htronSetsHeaterBit : Obligations.HtronSetsHeaterBit := by
  refine ⟨stands _, fun s ok => ?_⟩
  have fits : s.heatingBegun.cfg.aHeater.toNat < 128 := Cfg.base_lt ok (by simp [Cfg.bases, State.heatingBegun, State.setHs])
  have goesOn {u v : State} (h : u = v) : (Host.Outcome.next (u.goto 0x14) : Out) = .next (v.goto 0x14) := by rw [h]
  exact ⟨fun failed => (heaterRmw_read_err fits failed).trans (goesOn (s.heatingBegun.enableFailed_after _ _ _ _ _)),
    fun b read quiet => ⟨heaterRmw_write fits read quiet,
      fun answer => (heaterRmw_write fits read quiet answer).trans (goesOn (s.heatingBegun.enableFailed_after _ _ _ _ _))⟩⟩

/-- Settles O18: the failed read, and the write answered either way. -/
theorem htroffClearsHeaterBit : Obligations.HtroffClearsHeaterBit := by
  refine ⟨stands _, fun s ok => ?_⟩
  have fits : s.cfg.aHeater.toNat < 128 := Cfg.base_lt ok (by simp [Cfg.bases])
  exact ⟨fun failed => (heaterRmw_read_err fits failed).trans (congrArg Host.Outcome.next (s.disableFailed_after _ _ _ _ _)),
    fun b read quiet => ⟨heaterRmw_write fits read quiet,
      fun answer => (heaterRmw_write fits read quiet answer).trans (congrArg Host.Outcome.next (s.disableFailed_after _ _ _ _ _))⟩⟩

end Sys2Proof.Machine

/-! SUPPORT. The heater ops change one bit of the heater register (42_heater R123, R129): in the byte they write, and under P1 and
`ReadsCells` in the device. -/

namespace Sys2Proof.Machine

open Sys2Proof

/-! ### The byte written -/

theorem heaterOn_and_not (m b : Byte) : heaterOn m b &&& ~~~m = b &&& ~~~m := by
  rw [heaterOn, BitVec.and_or_distrib_right, BitVec.and_not_self]
  exact BitVec.or_zero

theorem heaterOff_and_not (m b : Byte) : heaterOff m b &&& ~~~m = b &&& ~~~m := by
  rw [heaterOff, BitVec.and_assoc, BitVec.and_self]

theorem heaterOff_and (m b : Byte) : heaterOff m b &&& m = 0 := by
  rw [heaterOff, BitVec.and_assoc, BitVec.not_and_self]
  exact BitVec.and_zero

theorem heaterOn_and_ne_zero {m : Byte} (b : Byte) (hm : m ≠ 0) : heaterOn m b &&& m ≠ 0 := by
  rw [heaterOn, BitVec.and_or_distrib_right, BitVec.and_self]
  exact fun zero => hm (BitVec.or_eq_zero_iff.1 zero).2

theorem Cfg.heaterMask_ne_zero {c : Cfg} (ok : c.ok = true) : c.heaterMask ≠ 0 := by
  obtain ⟨k, hk, mask⟩ := Cfg.mask_oneHot ok
  rw [mask]
  exact (by decide : ∀ k < 8, BitVec.ofNat 8 (2 ^ k) ≠ 0) k hk

/-! ### The device's cell -/

/-- A one-byte read of the cells, answered `Ok`, gives the cell. -/
theorem replyByte_of_readsCells {an : BusAnswer} (reads : ReadsCells an) {m : Memory} {a : Nat} {b : Byte}
    (reply : replyByte an m a = some b) : b = Memory.cell m a := by
  unfold replyByte at reply
  rw [reads] at reply
  split_ifs at reply
  exact (Option.some_inj.1 reply).symm

theorem cell_writtenCells_same (an : BusAnswer) (m : Memory) {a : Nat} (v : Byte) (ha : a < 128) :
    Memory.cell (writtenCells an m a v) a = v ∨ Memory.cell (writtenCells an m a v) a = Memory.cell m a := by
  cases took : an.took
  · exact .inr (by rw [writtenCells_of_not_took took])
  · exact .inl (by rw [writtenCells_of_took took, Memory.cell_write m a a v ha, if_pos rfl])

/-- From `s` to `t` the bits `keep` of the device's cell `a` are as before. -/
def KeepsBits (keep : Byte) (a : Nat) (s t : State) : Prop :=
  Memory.cell t.env.dev a &&& keep = Memory.cell s.env.dev a &&& keep

section

variable {a : Nat} {keep : Byte} {s u : State}

theorem KeepsCell.cell (h : KeepsCell a s u) : Memory.cell u.env.dev a = Memory.cell s.env.dev a :=
  congrArg (fun r => r.getD (Config.devCell a)) h

theorem KeepsCell.keepsBits (h : KeepsCell a s u) : KeepsBits keep a s u := congrArg (· &&& keep) h.cell

/-- The cell as a transaction finds it, after what the environment changes before it. -/
theorem KeepsCell.cell_cells (h : KeepsCell a s u) (spared : Spares u.nextBus a) : Memory.cell u.cells a = Memory.cell s.env.dev a :=
  (Memory.cell_writeAll_other _ _ _ spared.pokes).trans h.cell

/-- A write that changes none of the bits `keep` keeps them, whether it takes effect or not and whatever comes around it. -/
theorem KeepsCell.keepsBits_memWrite1 {b w : Byte} {k : Bool → State → State} (h : KeepsCell b.toNat s u) (fits : b.toNat < 128)
    (spared : Spares u.nextBus b.toNat) (same : w &&& keep = Memory.cell s.env.dev b.toNat &&& keep)
    (next : ∀ ok v, (k ok v).env.dev = v.env.dev) : KeepsBits keep b.toNat s (u.memWrite1 b w k) := by
  have written : Memory.cell (writtenCells u.nextBus u.cells b.toNat w) b.toNat &&& keep = Memory.cell s.env.dev b.toNat &&& keep := by
    rcases cell_writtenCells_same u.nextBus u.cells w fits with new | old
    · rw [new, same]
    · rw [old, h.cell_cells spared]
  exact State.transact_ind (P := KeepsBits keep _ s) (fun _ => h.keepsBits) (fun _ => h.keepsBits) (fun _ _ => written)
    (fun _ _ => written) fun _ _ => (congrArg (Memory.cell · b.toNat &&& keep) (next _ _)).trans written

/-- The read finds the cell as it was, and the byte written back differs from it in none of the bits `keep`. -/
theorem KeepsCell.keepsBits_heaterRmw {change : Byte → Byte} {done : Option Bool → State → State}
    (h : KeepsCell u.cfg.aHeater.toNat s u) (fits : u.cfg.aHeater.toNat < 128) (first : Spares u.nextBus u.cfg.aHeater.toNat)
    (reads : ReadsCells u.nextBus)
    (second : busQuiet u.nextBus = true → (replyByte u.nextBus u.cells u.cfg.aHeater.toNat).isSome = true →
      Spares u.secondBus u.cfg.aHeater.toNat)
    (same : ∀ b, change b &&& keep = b &&& keep) (next : ∀ failed v, (done failed v).env.dev = v.env.dev) :
    KeepsBits keep u.cfg.aHeater.toNat s (u.heaterRmw change done) := by
  have read : KeepsCell u.cfg.aHeater.toNat s (u.carried (fun an m => (replyByte an m u.cfg.aHeater.toNat, readCells an m))
      fun r => .r1 u.cfg.devAddr u.cfg.aHeater r) :=
    (read_readCells_other _ _ _ first.effects).trans ((Memory.read_writeAll_other _ _ _ first.pokes).trans h)
  refine State.transact_ind (P := KeepsBits keep _ s) (fun _ => h.keepsBits) (fun _ => h.keepsBits) (fun _ _ => read.keepsBits)
    (fun _ _ => read.keepsBits) fun before after => ?_
  cases reply : u.replyOf fun an m => (replyByte an m u.cfg.aHeater.toNat, readCells an m) with
  | none => exact (congrArg (Memory.cell · u.cfg.aHeater.toNat &&& keep) (next _ _)).trans read.keepsBits
  | some b =>
    have found : b = Memory.cell s.env.dev u.cfg.aHeater.toNat := (replyByte_of_readsCells reads reply).trans (h.cell_cells first)
    have spared := second ((busQuiet_iff _).2 ⟨before, after⟩) (Option.isSome_of_eq_some reply)
    exact KeepsCell.keepsBits_memWrite1 read fits spared ((same b).trans (by rw [found])) fun ok v => next _ v

end

/-- Settles O47: the byte bit by bit, and both ops as a read-modify-write that spares the bits outside the mask. -/
theorem heaterByteDiffersInOneBit : Obligations.HeaterByteDiffersInOneBit := by
  refine ⟨fun c b ok => ⟨heaterOn_and_not _ b, heaterOn_and_ne_zero b (Cfg.heaterMask_ne_zero ok), heaterOff_and_not _ b,
    heaterOff_and _ b⟩, fun s t i hi ok premises run => ?_⟩
  have fits : s.cfg.aHeater.toNat < 128 := Cfg.base_lt ok (by simp [Cfg.bases])
  obtain ⟨first, reads⟩ := premises _ (s.nextBus_mem_opAnswers (heaterOps_busOps hi))
  have second (quiet : busQuiet s.nextBus = true) (reply : (replyByte s.nextBus s.cells s.cfg.aHeater.toNat).isSome = true) :
      Spares s.secondBus s.cfg.aHeater.toNat := (premises _ (s.secondBus_mem_opAnswers hi quiet reply)).1
  have start : KeepsCell s.cfg.aHeater.toNat s s := rfl
  obtain rfl | rfl : i = .htron ∨ i = .htroff := by simpa [heaterOps] using hi
  · obtain ⟨-, ⟨⟩⟩ := onCells_next run
    exact start.keepsBits_heaterRmw (u := s.heatingBegun) fits first reads second (heaterOn_and_not _) fun failed v => by
      cases failed <;> rfl
  · obtain ⟨-, ⟨⟩⟩ := onCells_next run
    exact start.keepsBits_heaterRmw fits first reads second (heaterOff_and_not _) fun failed v => by cases failed <;> rfl

end Sys2Proof.Machine

/-! SUPPORT. Where a step can lead in the microprogram (43_pollloop R141), and the heater state at each phase (42_heater R130, log 17). -/

namespace Sys2Proof.Machine

open Sys2Proof

/-- A transaction ends at a `TERM` or `RESET`, or goes on; it touches no register. -/
theorem State.transact_registers_ind {α : Type} {P : State → Prop} {s : State} {carry : BusAnswer → Memory → α × Memory}
    {event : α → Event} {k : α → State → State} (term : ∀ env trace, P { s.takeTerm with env := env, trace := trace })
    (reset : ∀ env trace, P { s.takeReset with env := env, trace := trace })
    (next : ∀ r env trace, P (k r { s with env := env, trace := trace })) : P (s.transact carry event k) :=
  State.transact_ind (fun _ => term s.drawBus.env s.trace) (fun _ => reset s.drawBus.env s.trace)
    (fun _ _ => term (s.carried carry event).env (s.carried carry event).trace)
    (fun _ _ => reset (s.carried carry event).env (s.carried carry event).trace)
    fun _ _ => next (s.replyOf carry) (s.carried carry event).env (s.carried carry event).trace

/-- A read-modify-write ends at a `TERM` or `RESET`, or with its last answer; the one register it touches is `HREG`. -/
theorem State.heaterRmw_ind {P : State → Prop} {s : State} {change : Byte → Byte} {done : Option Bool → State → State}
    (term : ∀ hreg env trace, P { s.takeTerm with hreg := hreg, env := env, trace := trace })
    (reset : ∀ env trace, P { s.takeReset with env := env, trace := trace })
    (next : ∀ failed hreg env trace, P (done failed { s with hreg := hreg, env := env, trace := trace })) :
    P (s.heaterRmw change done) := by
  unfold State.heaterRmw State.memRead1 State.memWrite1
  refine State.transact_registers_ind (P := P) (term s.hreg) reset fun r env trace => ?_
  cases r with
  | none => exact next _ s.hreg env trace
  | some b => exact State.transact_registers_ind (P := P) (term (some b)) reset fun ok => next _ (some b)

/-! ### The phase after an op -/

/-- The phase of `t` is one an op at phase `p` can end in: 0x00 after `RESET`, `p` itself after `TERM`, or a successor of `p`. -/
def Follows (p : Byte) (t : State) : Prop := t.ph = 0x00 ∨ t.ph = p ∨ t.ph ∈ successors p

section

variable {p : Byte} {s : State}

theorem Follows.to {t : State} (h : t.ph ∈ successors p) : Follows p t := .inr (.inr h)

theorem Follows.takeTerm (here : s.ph = p) : Follows p s.takeTerm := .inr (.inl here)

theorem Follows.transact {α : Type} {carry : BusAnswer → Memory → α × Memory} {event : α → Event} {k : α → State → State}
    (here : s.ph = p) (next : ∀ r v, v.ph = p → Follows p (k r v)) : Follows p (s.transact carry event k) :=
  State.transact_registers_ind (P := Follows p) (fun _ _ => .takeTerm here) (fun _ _ => .inl rfl) fun r _ _ => next r _ here

theorem Follows.configWrite {a w : Byte} {k : State → State} (here : s.ph = p) (halt : 0x3F ∈ successors p)
    (next : ∀ v, (k v).ph ∈ successors p) : Follows p (s.configWrite a w k) := by
  unfold State.configWrite State.memWrite1
  refine Follows.transact here fun ok v _ => ?_
  cases ok
  · exact .to halt
  · exact .to (next v)

theorem Follows.calByte {a : Byte} {k : Byte → State → State} (here : s.ph = p) (halt : 0x3F ∈ successors p)
    (next : ∀ b v, (k b v).ph ∈ successors p) : Follows p (s.calByte a k) := by
  unfold State.calByte State.memRead1
  refine Follows.transact here fun r v _ => ?_
  cases r
  · exact .to halt
  · exact .to (next _ v)

theorem Follows.calPair {a : Byte} {k : Word → State → State} (here : s.ph = p) (halt : 0x3F ∈ successors p)
    (next : ∀ w v, (k w v).ph ∈ successors p) : Follows p (s.calPair a k) := by
  unfold State.calPair State.memRead2
  refine Follows.transact here fun r v _ => ?_
  cases r
  · exact .to halt
  · exact .to (next _ v)

theorem Follows.dataPair {a : Byte} {k : Word → State → State} (here : s.ph = p) (abort : 0x1E ∈ successors p)
    (next : ∀ w v, v.ph = p → (k w v).ph ∈ successors p) : Follows p (s.dataPair a k) := by
  unfold State.dataPair State.memRead2
  refine Follows.transact here fun r v hv => ?_
  cases r
  · exact .to abort
  · exact .to (next _ v hv)

theorem Follows.heaterRmw {change : Byte → Byte} {done : Option Bool → State → State} (here : s.ph = p)
    (next : ∀ failed v, (done failed v).ph ∈ successors p) : Follows p (s.heaterRmw change done) :=
  State.heaterRmw_ind (P := Follows p) (fun _ _ _ => .takeTerm here) (fun _ _ => .inl rfl) fun _ _ _ _ => .to (next _ _)

theorem Follows.sinkRequest {text : List Byte} {k : Bool → State → State} (here : s.ph = p)
    (next : ∀ ok v, (k ok v).ph ∈ successors p) : Follows p (s.sinkRequest text k) := by
  refine State.sinkRequest_ind (P := Follows p) (fun _ => .takeTerm here) (fun _ => .inl rfl) ?_
  rintro u rfl
  exact ⟨fun _ => .takeTerm here, fun _ => .inl rfl, fun _ => .to (next _ _)⟩

theorem Follows.wait {k : State → State} (here : s.ph = p) (next : ∀ v, (k v).ph ∈ successors p) : Follows p (s.wait k) :=
  State.wait_ind (P := Follows p) (fun _ _ => .takeTerm here) (fun _ _ => .inl rfl) (.to (next _))

end

/-- An op at one of its phases ends there, at a successor, or at 0x00 (R141; 60_exceptions R170; 70 R190). -/
theorem exec_follows {i : Instr} {s t : State} (stands : (s.ph, i) ∈ romTable) (h : exec i s = .next t) : Follows s.ph t := by
  have one := rom_phaseOf stands
  cases i with
  | cfgav | cfgctl =>
    have here := one nofun nofun
    obtain ⟨-, ⟨⟩⟩ := onCells_next h
    rw [here]
    exact .configWrite here (by decide) fun v => by simp [successors, phaseOf]
  | ldh0 | ldh1 | ldt0l | ldt1l | ldtmsb =>
    have here := one nofun nofun
    obtain ⟨-, ⟨⟩⟩ := onCells_next h
    rw [here]
    exact .calByte here (by decide) fun b v => by simp [successors, phaseOf]
  | ldh2 | ldh3 | ldt2 | ldt3 =>
    have here := one nofun nofun
    obtain ⟨-, ⟨⟩⟩ := onCells_next h
    rw [here]
    exact .calPair here (by decide) fun w v => by simp [successors, phaseOf]
  | unpkt =>
    have here := one nofun nofun
    obtain ⟨_, -, h⟩ := need_next h
    obtain ⟨_, -, h⟩ := need_next h
    obtain ⟨_, -, ⟨⟩⟩ := need_next h
    rw [here]
    exact .to (by simp [successors, phaseOf])
  | chkcal =>
    have here := one nofun nofun
    obtain ⟨_, -, h⟩ := need_next h
    obtain ⟨_, -, h⟩ := need_next h
    obtain ⟨_, -, h⟩ := need_next h
    obtain ⟨_, -, ⟨⟩⟩ := need_next h
    rw [here]
    split
    · exact .to (show 0x3F ∈ successors 0x0C by decide)
    · exact .to (show 0x10 ∈ successors 0x0C by decide)
  | rdhum =>
    obtain ⟨-, ⟨⟩⟩ := onCells_next h
    obtain here | here : s.ph = 0x10 ∨ s.ph = 0x16 := by simpa [romTable] using stands
    all_goals
      rw [here]
      refine .dataPair here (by decide) fun w v hv => ?_
      simp [hv, successors]
  | rdtemp =>
    have here := one nofun nofun
    obtain ⟨-, ⟨⟩⟩ := onCells_next h
    rw [here]
    exact .dataPair here (by decide) fun w v _ => by simp [successors, phaseOf]
  | cvhum =>
    obtain ⟨_, -, h⟩ := need_next h
    obtain ⟨_, -, h⟩ := need_next h
    obtain ⟨_, -, h⟩ := need_next h
    obtain ⟨_, -, h⟩ := need_next h
    obtain ⟨_, -, h⟩ := need_next h
    obtain ⟨-, -, ⟨⟩⟩ := convertible_next h
    obtain here | here : s.ph = 0x11 ∨ s.ph = 0x17 := by simpa [romTable] using stands
    all_goals exact .to (by simp [here, successors])
  | cvtc =>
    have here := one nofun nofun
    obtain ⟨_, -, h⟩ := need_next h
    obtain ⟨_, -, h⟩ := need_next h
    obtain ⟨_, -, h⟩ := need_next h
    obtain ⟨_, -, h⟩ := need_next h
    obtain ⟨_, -, h⟩ := need_next h
    obtain ⟨-, -, ⟨⟩⟩ := convertible_next h
    rw [here]
    exact .to (by simp [successors, phaseOf])
  | clamph | cvtf =>
    have here := one nofun nofun
    obtain ⟨_, -, ⟨⟩⟩ := need_next h
    rw [here]
    exact .to (by simp [successors, phaseOf])
  | satchk | retry =>
    have here := one nofun nofun
    obtain ⟨_, -, ⟨⟩⟩ := need_next h
    rw [here]
    split_ifs <;> exact .to (by simp [successors, phaseOf])
  | htron =>
    have here := one nofun nofun
    obtain ⟨-, ⟨⟩⟩ := onCells_next h
    rw [here]
    refine .heaterRmw here fun failed v => ?_
    cases failed <;> exact show 0x14 ∈ successors 0x13 by decide
  | htroff =>
    have here := one nofun nofun
    obtain ⟨-, ⟨⟩⟩ := onCells_next h
    rw [here]
    refine .heaterRmw here fun failed v => ?_
    cases failed
    · exact show 0x16 ∈ successors 0x15 by decide
    · exact show 0x1E ∈ successors 0x15 by decide
  | dwell | sleep =>
    have here := one nofun nofun
    obtain ⟨⟩ := h
    rw [here]
    exact .wait here fun v => by simp [successors, phaseOf]
  | emit =>
    have here := one nofun nofun
    obtain ⟨_, -, h⟩ := need_next h
    obtain ⟨_, -, h⟩ := need_next h
    obtain ⟨_, -, ⟨⟩⟩ := need_next h
    rw [here]
    refine .sinkRequest here fun ok v => ?_
    cases ok <;> exact show 0x1E ∈ successors 0x1D by decide
  | halt =>
    have here := one nofun nofun
    obtain ⟨⟩ := h
    rw [here]
    exact .to (by simp [successors, phaseOf])

/-- Only `SATCHK` and `RETRY` lead to the phase of `HTRON`. -/
theorem htron_mem_successors : ∀ p : Byte, 0x13 ∈ successors p → p = 0x12 ∨ p = 0x18 := by decide +kernel

/-! ### The heater state -/

/-- `HTRON` writes `Heating` before its read, so wherever it ends it does not leave `Cooldown`. -/
theorem exec_htron_hs {s t : State} (h : exec .htron s = .next t) : t.hs ≠ .cooldown := by
  obtain ⟨-, ⟨⟩⟩ := onCells_next h
  refine State.heaterRmw_ind (P := fun v => v.hs ≠ .cooldown) (fun _ _ _ => nofun) (fun _ _ => nofun) fun failed _ _ _ => ?_
  cases failed <;> exact nofun

/-- R130 as a table: the heater state of each phase. -/
theorem hsAt_iff : ∀ ph : Byte, ph ≠ 0x13 →
    (hsAt ph = .heating ↔ ph = 0x14 ∨ ph = 0x15) ∧ (hsAt ph = .cooldown ↔ ph = 0x16 ∨ ph = 0x17 ∨ ph = 0x18) ∧
    (hsAt ph = .idle ↔ ph.toNat < 0x13 ∨ 0x18 < ph.toNat) := by decide +kernel

/-- At the phase of `HTRON` an iteration was begun unless the block is idle (10_state R21, log 17). -/
theorem State.heater_at_htron {s : State} (heater : s.heaterPart = true) (here : s.ph = 0x13) :
    (s.hs = .idle ∧ s.iter = 0) ∨
    (s.hs = .cooldown ∧ 1 ≤ s.iter.toNat ∧ (s.f.term = false → s.iter.toNat < s.cfg.heaterMaxIter)) ∨
    (s.hs = .heating ∧ 1 ≤ s.iter.toNat ∧ s.f.term = true) := by
  obtain ⟨idle | cooldown | ⟨term, heating⟩, ⟨-, left⟩, counted⟩ := (State.heaterPart_htron here).1 heater
  all_goals have begun (active : s.hs ≠ .idle) : 1 ≤ s.iter.toNat :=
    Nat.one_le_iff_ne_zero.2 fun zero => active (counted.1 (BitVec.eq_of_toNat_eq zero))
  · exact .inl ⟨idle, counted.2 idle⟩
  · exact .inr (.inl ⟨cooldown, begun (by simp [cooldown]), left⟩)
  · exact .inr (.inr ⟨heating, begun (by simp [heating]), term⟩)

/-- A block that a step leaves at 0x13 in `Cooldown` comes from the `RETRY` at 0x18 or takes a `TERM` at 0x13: at 0x12 it is idle, and
`HTRON` heats. -/
theorem step_to_htron_in_cooldown {s t : State} (heater : s.heaterPart = true) (run : step s = .next t) (there : t.ph = 0x13)
    (cooldown : t.hs = .cooldown) : s.hs = .cooldown ∧ (s.ph = 0x18 ∨ (s.ph = 0x13 ∧ t.f.term = true)) := by
  obtain ⟨-, ⟨-, rfl⟩ | ⟨-, -, rfl⟩ | ⟨-, -, -, i, stands, ran⟩⟩ := step_cases run
  · exact absurd there (by simp)
  · exact ⟨cooldown, .inr ⟨there, rfl⟩⟩
  · obtain zero | stays | next := exec_follows (s := s.drawEvent) stands ran
    · exact absurd (zero.symm.trans there) (by decide)
    · have here : s.ph = 0x13 := stays.symm.trans there
      obtain rfl : i = .htron := by simpa [here, romTable] using stands
      exact absurd cooldown (exec_htron_hs ran)
    · obtain (here : s.ph = 0x12) | (here : s.ph = 0x18) := htron_mem_successors _ (there ▸ next)
      · obtain rfl : i = .satchk := by simpa [here, romTable] using stands
        obtain ⟨_, -, ⟨⟩⟩ := need_next ran
        have idle : s.hs = .idle := ((State.heaterPart_outside (by rw [here]; decide)).1 heater).1
        exact absurd (idle.symm.trans cooldown) nofun
      · have tied := ((State.heaterPart_inside (by rw [here]; decide) (by rw [here]; decide)).1 heater).1
        exact ⟨tied.trans (by rw [here]; rfl), .inl here⟩

/-- Settles O41: `hsAt` is the table away from 0x13; the states at 0x13, and the steps to it, by the two lemmas above. -/
theorem heaterStateFollowsPhase : Obligations.HeaterStateFollowsPhase := by
  refine ⟨fun s inv => ⟨fun away => ?_, s.heater_at_htron (s.heaterPart_of_inv inv)⟩,
    fun s t inv => step_to_htron_in_cooldown (s.heaterPart_of_inv inv)⟩
  obtain ⟨tied, -⟩ := s.heaterPart_iff.1 (s.heaterPart_of_inv inv)
  rw [tied.resolve_right fun htron => away htron.1]
  exact hsAt_iff s.ph away

end Sys2Proof.Machine

/-! SUPPORT. The sequencing of 43_pollloop: the op a step runs (R141, R142), the three ops of family 4 (R150, R151, R153), and the successors
of each phase (R141, R143). -/

namespace Sys2Proof.Machine

open Sys2Proof

/-! ### The op a step runs -/

/-- Settles O54: the table and `romCode` name the same ops, and `romCode` is checked at every byte. -/
theorem microprogramTable : Obligations.MicroprogramTable :=
  ⟨rom_op, by decide +kernel⟩

theorem fetchOp_of_opHere {s : State} {i : Instr} (legal : s.hs ≠ .pattern3) (op : s.opHere = some i) (run : Instr → Out) :
    fetchOp s run = run i := by
  obtain ⟨c, code, op⟩ := Option.bind_eq_some_iff.1 op
  simp only [fetchOp, if_neg legal, code, op]

/-- A step without `TERM` and `RESET` before it fetches its op once that choice is drawn. -/
theorem step_of_no_event {s : State} (ok : s.cfg.ok = true) (event : s.nextEvent = .none) (live : s.f.term = false) :
    step s = fetchOp s.drawEvent fun i => exec i s.drawEvent := by
  simp [step, beforeOp, ok, event, live]

/-- Settles O53: the code at the phase and its decoding name the op that the step fetches. -/
theorem stepRunsDecodedOp : Obligations.StepRunsDecodedOp := by
  intro s c i ok event live legal code decoded _
  have named : c = i.code := by simpa [encode] using decode_eq_ok_iff.1 decoded
  have op : s.drawEvent.opHere = some i := Option.bind_eq_some_iff.2 ⟨c, code, decodeOp_eq_some_iff.2 named⟩
  exact (step_of_no_event ok event live).trans (fetchOp_of_opHere legal op _)

/-- Settles O34: with `F.term` set, both choices other than `RESET` end in the stop. -/
theorem terminatedBlockTakesNoStep : Obligations.TerminatedBlockTakesNoStep := by
  intro s ok term live
  cases event : s.nextEvent with
  | reset => exact absurd event live
  | none | term => simp [step, beforeOp, ok, event, term]

/-! ### The ops of family 4 -/

theorem State.raise_outputIoError (s : State) (addr : Byte) (rw : Bool) : s.raise .outputIoError addr rw =
    { s with hs := .idle, ph := 0x1E, err := s.errNow 0x50 addr rw, trace := s.trace ++ [.log (s.errNow 0x50 addr rw)] } := rfl

/-- Settles O20: with its operands there `EMIT` is one quiet sink request, answered either way. -/
theorem emitSendsOneRecord : Obligations.EmitSendsOneRecord := by
  refine ⟨stands _, fun s h c f text eqh eqc eqf quiet record => ⟨?_, fun answer => ?_, fun answer => ?_⟩⟩
  · rintro (num | num) <;> rw [record, num] <;> rfl
  all_goals
    subst record
    change execEmit s = _
    rw [execEmit, eqh, eqc, eqf, need_some, need_some, need_some, State.sinkRequest_quiet quiet, answer]
  · rfl
  · rw [if_neg Bool.false_ne_true, State.raise_outputIoError, List.append_assoc]
    rfl

/-- Settles O21: a whole wait of the timer loaded with the cycle's ticks; at 0x1E the invariant ties `HS` to `Idle`. -/
theorem sleepStartsFreshCycle : Obligations.SleepStartsFreshCycle := by
  refine ⟨stands _, fun s inv ph => ?_, fun s whole => congrArg Host.Outcome.next ((s.loadTimer s.cfg.cycleTicks).wait_full _ whole)⟩
  exact ((State.heaterPart_outside (by rw [ph]; decide)).1 (s.heaterPart_of_inv inv)).1

theorem State.goto_of_ph {s : State} {p : Byte} (here : s.ph = p) : s.goto p = s := here ▸ rfl

/-- Settles O22: at 0x3F the only op is `HALT`, so a step is a `TERM` or one more `HALT`. -/
theorem haltedBlockIsSilent : Obligations.HaltedBlockIsSilent := by
  refine ⟨stands _, fun _ => rfl, fun s t here live run => ?_⟩
  obtain ⟨-, ⟨reset, -⟩ | ⟨-, -, rfl⟩ | ⟨-, -, -, i, stands, ran⟩⟩ := step_cases run
  · exact absurd reset live
  · exact ⟨here, rfl, rfl, rfl, rfl, .inr rfl⟩
  · obtain rfl : i = .halt := by simpa [here, romTable] using stands
    obtain rfl : s.drawEvent.setHalted = t := by
      rw [← State.goto_of_ph (s := s.drawEvent.setHalted) here]
      exact Host.Outcome.next.inj ran
    exact ⟨here, rfl, rfl, rfl, rfl, .inl rfl⟩

/-! ### Ops that nothing interrupts -/

theorem firstStop_eq_none_iff {points : List Async} : firstStop points = .none ↔ ∀ e ∈ points, e = .none := by
  induction points with
  | nil => simp [firstStop]
  | cons e rest ih => cases e with
    | none => exact ih.trans (by simp)
    | term | reset => simp [firstStop]

/-- Every transaction of an op that nothing interrupts is quiet. -/
theorem State.quiet_of_uninterrupted {s : State} {i : Instr} (bus : i ∈ busOps) (whole : s.opInterrupt i = .none) :
    ∀ an ∈ s.opAnswers i, busQuiet an = true := by
  rw [s.opInterrupt_eq, s.opPoints_bus bus, firstStop_eq_none_iff] at whole
  intro an drawn
  have point (e : Async) (around : e ∈ busPoints an) : e = .none := whole e (List.mem_flatMap.2 ⟨an, drawn, around⟩)
  exact (busQuiet_iff an).2 ⟨point _ (by simp [busPoints]), point _ (by simp [busPoints])⟩

/-! ### The phase after a shared operation that nothing interrupts -/

theorem State.wait_loadTimer_ph_mem {s : State} {n : Nat} {k : State → State} {ps : List Byte} (whole : s.nextWait.what = .none)
    (next : ∀ u, (k u).ph ∈ ps) : ((s.loadTimer n).wait k).ph ∈ ps := by
  rw [(s.loadTimer n).wait_full k whole]
  exact next _

section

variable {s : State} {a : Byte} {ps : List Byte} (quiet : busQuiet s.nextBus = true)
include quiet

theorem State.memWrite1_ph_mem {v : Byte} {k : Bool → State → State} (next : ∀ ok u, (k ok u).ph ∈ ps) :
    (s.memWrite1 a v k).ph ∈ ps := by
  rw [State.memWrite1_quiet ⟨quiet, rfl⟩]
  exact next _ _

theorem State.configWrite_ph_mem {v : Byte} {k : State → State} (halt : 0x3F ∈ ps) (next : ∀ u, (k u).ph ∈ ps) :
    (s.configWrite a v k).ph ∈ ps :=
  State.memWrite1_ph_mem quiet fun ok u => by
    cases ok
    · exact halt
    · exact next u

theorem State.calByte_ph_mem {k : Byte → State → State} (halt : 0x3F ∈ ps) (next : ∀ b u, (k b u).ph ∈ ps) :
    (s.calByte a k).ph ∈ ps := by
  rw [State.calByte, State.memRead1_quiet ⟨quiet, rfl⟩]
  cases replyByte s.nextBus s.cells a.toNat
  · exact halt
  · exact next _ _

theorem State.calPair_ph_mem {k : Word → State → State} (halt : 0x3F ∈ ps) (next : ∀ w u, (k w u).ph ∈ ps) :
    (s.calPair a k).ph ∈ ps := by
  rw [State.calPair, State.memRead2_quiet ⟨quiet, rfl⟩]
  cases replyPair s.nextBus s.cells a.toNat
  · exact halt
  · exact next _ _

theorem State.dataPair_ph_mem {k : Word → State → State} (abort : 0x1E ∈ ps) (next : ∀ w u, u.ph = s.ph → (k w u).ph ∈ ps) :
    (s.dataPair a k).ph ∈ ps := by
  rw [State.dataPair, State.memRead2_quiet ⟨quiet, rfl⟩]
  cases replyPair s.nextBus s.cells a.toNat
  · exact abort
  · exact next _ _ rfl

theorem State.heaterRmw_ph_mem {change : Byte → Byte} {done : Option Bool → State → State}
    (second : (replyByte s.nextBus s.cells s.cfg.aHeater.toNat).isSome = true → busQuiet s.secondBus = true)
    (next : ∀ failed u, (done failed u).ph ∈ ps) : (s.heaterRmw change done).ph ∈ ps := by
  rw [State.heaterRmw, State.memRead1_quiet ⟨quiet, rfl⟩]
  cases reply : replyByte s.nextBus s.cells s.cfg.aHeater.toNat with
  | none => exact next _ _
  | some b =>
    refine State.memWrite1_ph_mem ?_ fun _ => next _
    exact second (Option.isSome_of_eq_some reply)

end

/-! ### The phase after an op and after a step -/

/-- If the op's outcome is a next state, that stands at a successor of `p`. -/
def Completes (p : Byte) (o : Out) : Prop := ∀ t, o = .next t → t.ph ∈ successors p

section

variable {p : Byte} {o : Out}

theorem Completes.next {t : State} (h : t.ph ∈ successors p) : Completes p (.next t) := by
  rintro _ ⟨⟩
  exact h

theorem Completes.need {α : Type} {r : RegName} {v : Option α} {k : α → Out} (h : ∀ x, Completes p (k x)) :
    Completes p (need r v k) := by
  intro t run
  obtain ⟨x, -, run⟩ := need_next run
  exact h x t run

theorem Completes.onCells {a : Byte} {n : Nat} (h : Completes p o) : Completes p (onCells a n o) :=
  fun t run => h t (onCells_next run).2

theorem Completes.convertible {valid : Bool} {low high : Word} (h : Completes p o) : Completes p (convertible valid low high o) :=
  fun t run => h t (convertible_next run).2.2

end

/-- An op at one of its phases that nothing interrupts goes to a successor of the phase (R141). -/
theorem exec_completes {i : Instr} {s : State} (stands : (s.ph, i) ∈ romTable) (whole : s.opInterrupt i = .none) :
    Completes s.ph (exec i s) := by
  have one := rom_phaseOf stands
  have quiet (bus : i ∈ busOps) : busQuiet s.nextBus = true :=
    State.quiet_of_uninterrupted bus whole _ (s.nextBus_mem_opAnswers bus)
  have second (heater : i ∈ heaterOps) (reply : (replyByte s.nextBus s.cells s.cfg.aHeater.toNat).isSome = true) :
      busQuiet s.secondBus = true :=
    have bus := heaterOps_busOps heater
    State.quiet_of_uninterrupted bus whole _ (s.secondBus_mem_opAnswers heater (quiet bus) reply)
  cases i with
  | cfgav | cfgctl =>
    rw [one nofun nofun]
    exact .onCells (.next (State.configWrite_ph_mem (quiet (by decide)) (by decide) fun _ => by simp [successors, phaseOf]))
  | ldh0 | ldh1 | ldt0l | ldt1l | ldtmsb =>
    rw [one nofun nofun]
    exact .onCells (.next (State.calByte_ph_mem (quiet (by decide)) (by decide) fun _ _ => by simp [successors, phaseOf]))
  | ldh2 | ldh3 | ldt2 | ldt3 =>
    rw [one nofun nofun]
    exact .onCells (.next (State.calPair_ph_mem (quiet (by decide)) (by decide) fun _ _ => by simp [successors, phaseOf]))
  | unpkt =>
    rw [one nofun nofun]
    exact .need fun _ => .need fun _ => .need fun _ => .next (by simp [successors, phaseOf])
  | chkcal =>
    rw [one nofun nofun]
    refine .need fun _ => .need fun _ => .need fun _ => .need fun _ => .next ?_
    split
    · exact show 0x3F ∈ successors 0x0C by decide
    · exact show 0x10 ∈ successors 0x0C by decide
  | rdhum =>
    obtain here | here : s.ph = 0x10 ∨ s.ph = 0x16 := by simpa [romTable] using stands
    all_goals
      rw [here]
      refine .onCells (.next (State.dataPair_ph_mem (quiet (by decide)) (by decide) fun _ u kept => ?_))
      simp [kept, here, successors]
  | rdtemp =>
    rw [one nofun nofun]
    exact .onCells (.next (State.dataPair_ph_mem (quiet (by decide)) (by decide) fun _ _ _ => by simp [successors, phaseOf]))
  | cvhum =>
    refine .need fun _ => .need fun _ => .need fun _ => .need fun _ => .need fun _ => .convertible (.next ?_)
    obtain here | here : s.ph = 0x11 ∨ s.ph = 0x17 := by simpa [romTable] using stands
    all_goals simp [here, successors]
  | cvtc =>
    rw [one nofun nofun]
    exact .need fun _ => .need fun _ => .need fun _ => .need fun _ => .need fun _ => .convertible
      (.next (by simp [successors, phaseOf]))
  | clamph | cvtf =>
    rw [one nofun nofun]
    exact .need fun _ => .next (by simp [successors, phaseOf])
  | satchk | retry =>
    rw [one nofun nofun]
    refine .need fun _ => .next ?_
    split_ifs <;> simp [successors, phaseOf]
  | htron =>
    rw [one nofun nofun]
    refine .onCells (.next (State.heaterRmw_ph_mem (s := s.heatingBegun) (quiet (by decide)) (second (by decide))
      fun failed _ => ?_))
    cases failed <;> exact show 0x14 ∈ successors 0x13 by decide
  | htroff =>
    rw [one nofun nofun]
    refine .onCells (.next (State.heaterRmw_ph_mem (quiet (by decide)) (second (by decide)) fun failed _ => ?_))
    cases failed
    · exact show 0x16 ∈ successors 0x15 by decide
    · exact show 0x1E ∈ successors 0x15 by decide
  | dwell | sleep =>
    rw [one nofun nofun]
    have uncut : s.nextWait.what = .none := firstStop_eq_none_iff.1 whole _ List.mem_cons_self
    exact .next (State.wait_loadTimer_ph_mem uncut fun _ => by simp [successors, phaseOf])
  | emit =>
    rw [one nofun nofun]
    have point := firstStop_eq_none_iff.1 whole
    have quietSink : sinkQuiet s.nextSink = true :=
      (sinkQuiet_iff _).2 ⟨point _ (by simp [State.opPoints]), point _ (by simp [State.opPoints])⟩
    refine .need fun _ => .need fun _ => .need fun _ => .next ?_
    rw [State.sinkRequest_quiet quietSink]
    split <;> exact show 0x1E ∈ successors 0x1D by decide
  | halt =>
    rw [one nofun nofun]
    exact .next (by simp [successors, phaseOf])

/-- Settles O49: a step that takes neither `TERM` nor `RESET` runs its op uninterrupted. -/
theorem stepGoesToSuccessor : Obligations.StepGoesToSuccessor := by
  intro s t noReset noTerm run
  obtain ⟨reset, -⟩ | ⟨term, -⟩ | ⟨-, i, stands, ran, interrupt, -⟩ := step_points run
  · exact absurd reset noReset
  · exact absurd term noTerm
  · have whole : s.drawEvent.opInterrupt i = .none := by
      rw [← interrupt]
      cases ends : s.interrupt with
      | none => rfl
      | term => exact absurd ends noTerm
      | reset => exact absurd ends noReset
    exact exec_completes (s := s.drawEvent) stands whole t ran

end Sys2Proof.Machine

/-! SUPPORT. What an error leaves (60_exceptions R163 to R166), and the stops of a step (R181 b, e, f). -/

namespace Sys2Proof.Machine

open Sys2Proof

/-! ### Raising an error -/

section

variable (s : State) (addr : Byte) (rw : Bool)

theorem State.raise_heaterEnableFailed : s.raise .heaterEnableFailed addr rw =
    { s with err := s.errNow 0x40 addr rw, trace := s.trace ++ [.log (s.errNow 0x40 addr rw)] } := rfl

theorem State.raise_heaterDisableFailed : s.raise .heaterDisableFailed addr rw =
    { s with hs := .idle, ph := 0x1E, err := s.errNow 0x41 addr rw, trace := s.trace ++ [.log (s.errNow 0x41 addr rw)] } := rfl

end

/-- Settles O31: error by error. -/
theorem raiseRecordsAndEnters : Obligations.RaiseRecordsAndEnters := fun s addr rw =>
  ⟨s.raise_configurationError addr rw, s.raise_calibrationError addr rw, s.raise_conversionDomainError addr rw,
    s.raise_busIoError addr rw, s.raise_heaterEnableFailed addr rw, s.raise_heaterDisableFailed addr rw,
    s.raise_heaterSaturationUnresolved addr rw, s.raise_outputIoError addr rw⟩

/-! ### The stops of a step -/

theorem fetchOp_of_pattern3 {s : State} (pattern : s.hs = .pattern3) (run : Instr → Out) : fetchOp s run = .fault .badHeaterState :=
  if_pos pattern

theorem fetchOp_of_illegal_phase {s : State} (legal : s.hs ≠ .pattern3) (phase : romCode s.ph = none) (run : Instr → Out) :
    fetchOp s run = .fault (.badPhase s.ph) := by
  rw [fetchOp, if_neg legal, phase]

/-- Settles O59: the configuration is checked first, then the heater state, then the phase (log 13). -/
theorem stepFaultsAndRefusals : Obligations.StepFaultsAndRefusals := by
  refine ⟨fun s bad => ?_, fun s ok event live pattern => ?_, fun s ok event live legal phase => ?_⟩
  · simp [step, beforeOp, bad]
  · exact (step_of_no_event ok event live).trans (fetchOp_of_pattern3 (s := s.drawEvent) pattern _)
  · exact (step_of_no_event ok event live).trans (fetchOp_of_illegal_phase (s := s.drawEvent) legal phase _)

end Sys2Proof.Machine

/-! SUPPORT. Where a `TERM` leaves the block (60_exceptions R170): between two steps, before the first request of an op, after a response,
inside the read-modify-write of the heater, and inside a wait. -/

namespace Sys2Proof.Machine

open Sys2Proof

/-! ### Between two steps and inside a wait -/

theorem step_of_term {s : State} (ok : s.cfg.ok = true) (event : s.nextEvent = .term) (live : s.f.term = false) :
    step s = .next s.drawEvent.takeTerm := by
  simp [step, beforeOp, ok, event, live]

/-- Settles O33: of the environment only the choice is drawn. -/
theorem termBetweenStepsSetsFlag : Obligations.TermBetweenStepsSetsFlag :=
  fun _ ok event live => ⟨_, step_of_term ok event live, rfl, rfl, rfl⟩

/-- Settles O38: both waits are of the timer just loaded. -/
theorem termInsideWaitKeepsRest : Obligations.TermInsideWaitKeepsRest := by
  intro s cut
  rw [List.forall_mem_cons, List.forall_mem_singleton]
  exact ⟨congrArg Host.Outcome.next (s.wait_loadTimer_term _ _ cut), congrArg Host.Outcome.next (s.wait_loadTimer_term _ _ cut)⟩

/-! ### Before the first request -/

section

variable {s : State} (term : s.nextBus.before = .term)
include term

theorem transact_term_before {α : Type} {a : Byte} {n : Nat} {carry : BusAnswer → Memory → α × Memory} {event : α → Event}
    {k : α → State → State} (fits : a.toNat + n ≤ 128) :
    onCells a n (.next (s.transact carry event k)) = .next s.drawBus.takeTerm := by
  rw [onCells_of_le fits, State.transact_before _ _ _ _ (by simp [term]), term, State.pass_term]

theorem byteRead_term_before {a : Byte} (fits : a.toNat < 128) (k : Option Byte → State → State) :
    onCells a 1 (.next (s.memRead1 a k)) = .next s.drawBus.takeTerm := transact_term_before term fits

theorem pairRead_term_before {a : Byte} (fits : a.toNat + 1 < 128) (k : Option Word → State → State) :
    onCells a 2 (.next (s.memRead2 a k)) = .next s.drawBus.takeTerm := transact_term_before term fits

theorem write_term_before {a : Byte} (fits : a.toNat < 128) (v : Byte) (k : Bool → State → State) :
    onCells a 1 (.next (s.memWrite1 a v k)) = .next s.drawBus.takeTerm := transact_term_before term fits

/-- Only `HTRON` writes registers before its first request (R170). -/
theorem exec_term_before_request {i : Instr} (ok : s.cfg.ok = true) (bus : i ∈ busOps) (other : i ≠ .htron) :
    exec i s = .next s.drawBus.takeTerm := by
  have base {a : Byte} (mem : a ∈ s.cfg.bases) : a.toNat < 128 := Cfg.base_lt ok mem
  have pair {a : Byte} (mem : a ∈ s.cfg.pairBases) : a.toNat + 1 < 128 := Cfg.pair_lt ok mem
  cases i with
  | cfgav | cfgctl =>
    refine write_term_before term ?_ _ _
    exact base (by simp [Cfg.bases])
  | ldh0 | ldh1 | ldt0l | ldt1l | ldtmsb | htroff =>
    refine byteRead_term_before term ?_ _
    exact base (by simp [Cfg.bases])
  | ldh2 | ldh3 | ldt2 | ldt3 | rdhum | rdtemp =>
    refine pairRead_term_before term ?_ _
    exact pair (by simp [Cfg.pairBases])
  | htron => exact absurd rfl other
  | _ => exact absurd bus (by decide)

end

/-- `EMIT` with its operands there is one sink request. -/
theorem exec_emit {s : State} {h c f : F32} (eqh : s.phy.humR = some h) (eqc : s.phy.tempC = some c) (eqf : s.phy.tempF = some f) :
    exec .emit s = .next (s.sinkRequest (recordText s.cfg.num.fmt2 h c f) fun ok s =>
      if ok then s.goto 0x1E else s.raise .outputIoError 0xFF true) := by
  change execEmit s = _
  rw [execEmit, eqh, eqc, eqf, need_some, need_some, need_some]

theorem State.sinkRequest_term_before {s : State} (term : s.nextSink.before = .term) (text : List Byte) (k : Bool → State → State) :
    s.sinkRequest text k = s.drawSink.takeTerm := by
  rw [State.sinkRequest, term, State.pass_term]

/-- Settles O35: of the environment only the choice is drawn. -/
theorem termBeforeRequestKeepsState : Obligations.TermBeforeRequestKeepsState := by
  refine fun s ok => ⟨fun term => ⟨fun i bus other => ⟨_, exec_term_before_request term ok bus other, rfl, rfl⟩, ?_⟩,
    fun hasH hasC hasF term => ?_⟩
  · have fits : s.heatingBegun.cfg.aHeater.toNat < 128 := Cfg.base_lt ok (by simp [Cfg.bases, State.heatingBegun, State.setHs])
    exact ⟨_, byteRead_term_before (s := s.heatingBegun) term fits _, rfl, rfl⟩
  · obtain ⟨h, eqh⟩ := Option.isSome_iff_exists.1 hasH
    obtain ⟨c, eqc⟩ := Option.isSome_iff_exists.1 hasC
    obtain ⟨f, eqf⟩ := Option.isSome_iff_exists.1 hasF
    exact ⟨s.drawSink.takeTerm, by rw [exec_emit eqh eqc eqf, State.sinkRequest_term_before term], rfl, rfl⟩

/-! ### After the response -/

section

variable {s : State} (before : s.nextBus.before = .none) (term : s.nextBus.after = .term)
include before term

theorem transact_term_after {α : Type} {a : Byte} {n : Nat} {carry : BusAnswer → Memory → α × Memory} {event : α → Event}
    {k : α → State → State} (fits : a.toNat + n ≤ 128) :
    onCells a n (.next (s.transact carry event k)) = .next (s.carried carry event).takeTerm := by
  rw [onCells_of_le fits, State.transact_after _ _ _ _ before (by simp [term]), term, State.pass_term]

theorem byteRead_term_after {a : Byte} (fits : a.toNat < 128) (k : Option Byte → State → State) :
    onCells a 1 (.next (s.memRead1 a k)) = .next { s with
      f := { s.f with term := true }, env := s.afterRead
      trace := s.trace ++ [.r1 s.cfg.devAddr a (replyByte s.nextBus s.cells a.toNat)] } :=
  transact_term_after before term fits

theorem pairRead_term_after {a : Byte} (fits : a.toNat + 1 < 128) (k : Option Word → State → State) :
    onCells a 2 (.next (s.memRead2 a k)) = .next { s with
      f := { s.f with term := true }, env := s.afterRead
      trace := s.trace ++ [.r2 s.cfg.devAddr (s.cfg.incByte a) (replyPair s.nextBus s.cells a.toNat)] } :=
  transact_term_after before term fits

theorem write_term_after {a : Byte} (fits : a.toNat < 128) (v : Byte) (k : Bool → State → State) :
    onCells a 1 (.next (s.memWrite1 a v k)) = .next { s with
      f := { s.f with term := true }, env := s.afterWrite a v
      trace := s.trace ++ [.w1 s.cfg.devAddr a v s.nextBus.ok] } :=
  transact_term_after before term fits

end

theorem State.sinkRequest_term_after {s : State} (before : s.nextSink.before = .none) (term : s.nextSink.after = .term) (text : List Byte)
    (k : Bool → State → State) : s.sinkRequest text k = { s with
      f := { s.f with term := true }, env := s.afterSink text, trace := s.trace ++ [.sink text s.nextSink.ok] } := by
  rw [State.sinkRequest, before, State.pass_none, term, State.pass_term]
  rfl

theorem mem_bases_of_byteReads {c : Cfg} {p : Instr × Byte} (h : p ∈ byteReads c) : p.2 ∈ c.bases := by
  revert p
  simp [byteReads, Cfg.bases]

theorem mem_pairBases_of_pairReads {c : Cfg} {p : Instr × Byte} (h : p ∈ pairReads c) : p.2 ∈ c.pairBases := by
  revert p
  simp [pairReads, Cfg.pairBases]

theorem mem_bases_of_configWrites {c : Cfg} {p : Instr × Byte × Byte} (h : p ∈ configWrites c) : p.2.1 ∈ c.bases := by
  revert p
  simp [configWrites, Cfg.bases]

/-- Settles O36: the three forms of a transaction, and the sink request. -/
theorem termAfterResponseKeepsState : Obligations.TermAfterResponseKeepsState := by
  refine fun s ok => ⟨fun before term => ⟨fun p mem => ?_, fun p mem => ?_, fun p mem => ?_⟩, fun h c f eqh eqc eqf before term => ?_⟩
  · have fits := Cfg.base_lt ok (mem_bases_of_byteReads mem)
    simp only [byteReads, List.mem_cons, List.not_mem_nil, or_false] at mem
    rcases mem with rfl | rfl | rfl | rfl | rfl <;> exact byteRead_term_after before term fits _
  · have fits := Cfg.pair_lt ok (mem_pairBases_of_pairReads mem)
    simp only [pairReads, List.mem_cons, List.not_mem_nil, or_false] at mem
    rcases mem with rfl | rfl | rfl | rfl | rfl | rfl <;> exact pairRead_term_after before term fits _
  · have fits := Cfg.base_lt ok (mem_bases_of_configWrites mem)
    simp only [configWrites, List.mem_cons, List.not_mem_nil, or_false] at mem
    rcases mem with rfl | rfl <;> exact write_term_after before term fits _ _
  · rw [exec_emit eqh eqc eqf, State.sinkRequest_term_after before term]

/-! ### Inside the read-modify-write -/

/-- The block between the two transactions of a read-modify-write: the byte read, `b`, is in `HREG` (R122, R125). -/
def State.latched (s : State) (b : Byte) : State :=
  { s with hreg := some b, env := s.afterRead, trace := s.trace ++ [.r1 s.cfg.devAddr s.cfg.aHeater (some b)] }

theorem State.latched_nextBus (s : State) (b : Byte) : (s.latched b).nextBus = s.secondBus := rfl

section

variable {s : State} {change : Byte → Byte} {done : Option Bool → State → State} {b : Byte}
  (fits : s.cfg.aHeater.toNat < 128) (read : s.repliesByte s.cfg.aHeater (some b))

include read in
theorem heaterRmw_read_ok : s.heaterRmw change done =
    (s.latched b).memWrite1 s.cfg.aHeater (change b) fun ok s => done (if ok then none else some true) s := by
  rw [State.heaterRmw, State.memRead1_quiet read]
  rfl

include fits read

/-- A `TERM` between the read and the write: no write is issued. -/
theorem heaterRmw_term_before_write (term : s.secondBus.before = .term) :
    onCells s.cfg.aHeater 1 (.next (s.heaterRmw change done)) = .next (s.latched b).drawBus.takeTerm := by
  rw [heaterRmw_read_ok read]
  rw [← s.latched_nextBus b] at term
  exact write_term_before term fits _ _

/-- A `TERM` after the write's response: the write is made, and nothing after it, whatever the response. -/
theorem heaterRmw_term_after_write (before : s.secondBus.before = .none) (term : s.secondBus.after = .term) :
    onCells s.cfg.aHeater 1 (.next (s.heaterRmw change done)) = .next { s with
      hreg := some b, f := { s.f with term := true }, env := s.afterRmw s.cfg.aHeater (change b)
      trace := s.trace ++ [.r1 s.cfg.devAddr s.cfg.aHeater (some b),
        .w1 s.cfg.devAddr s.cfg.aHeater (change b) s.secondBus.ok] } := by
  rw [heaterRmw_read_ok read]
  rw [← s.latched_nextBus b] at before term
  refine (write_term_after before term fits _ _).trans ?_
  rw [State.latched, List.append_assoc]
  rfl

end

/-- Settles O37: the three points of a read-modify-write, of the block that has begun an iteration and of the block as it is. -/
theorem termInsideHeaterOpsKeepsEarlierWrites : Obligations.TermInsideHeaterOpsKeepsEarlierWrites := by
  intro s ok
  have fits : s.cfg.aHeater.toNat < 128 := Cfg.base_lt ok (by simp [Cfg.bases])
  have begun : s.heatingBegun.cfg.aHeater.toNat < 128 := fits
  refine ⟨fun before term => ⟨?_, ?_⟩, fun b read => ⟨fun term => ⟨?_, ?_⟩, fun before term => ⟨?_, ?_⟩⟩⟩
  · exact byteRead_term_after (s := s.heatingBegun) before term begun _
  · exact byteRead_term_after before term fits _
  · exact ⟨_, heaterRmw_term_before_write begun read term, rfl, rfl⟩
  · exact ⟨_, heaterRmw_term_before_write fits read term, rfl, rfl⟩
  · exact heaterRmw_term_after_write begun read before term
  · exact heaterRmw_term_after_write fits read before term

end Sys2Proof.Machine

/-! SUPPORT. How much a step puts on its ports: at most two bus transactions, one sink request and one `LOG` record, and `ERR` mirrors
`LOG` (60_exceptions R163, R172). -/

namespace Sys2Proof.Machine

open Sys2Proof

/-- From `s` to `t` the trace grows by at most so many bus transactions, sink requests and `LOG` records; if `live` is so, no `RESET` was
taken on the way, and `ERR` is the last of those records, or as it was. -/
def Adds (live : Prop) (buses sinks logs : Nat) (s t : State) : Prop :=
  ∃ es, t.trace = s.trace ++ es ∧ (es.filter Event.isBus).length ≤ buses ∧ (es.filter Event.isSink).length ≤ sinks ∧
    (logged es).length ≤ logs ∧ (live → t.err = (logged es).getLastD s.err)

theorem logged_append (es fs : List Event) : logged (es ++ fs) = logged es ++ logged fs := List.filterMap_append

section

variable {live : Prop} {b k l : Nat} {s u t : State}

theorem Adds.refl (s : State) : Adds live 0 0 0 s s := ⟨[], by simp, le_rfl, le_rfl, le_rfl, fun _ => rfl⟩

theorem Adds.mono {b' k' l' : Nat} (h : Adds live b k l s t) (hb : b ≤ b' := by decide) (hk : k ≤ k' := by decide)
    (hl : l ≤ l' := by decide) : Adds live b' k' l' s t := by
  obtain ⟨es, grown, buses, sinks, logs, err⟩ := h
  exact ⟨es, grown, buses.trans hb, sinks.trans hk, logs.trans hl, err⟩

/-- An update of other registers. -/
theorem Adds.of_frame (h : Adds live b k l s u) (trace : t.trace = u.trace) (err : t.err = u.err) : Adds live b k l s t := by
  unfold Adds
  rw [trace, err]
  exact h

theorem Adds.takeTerm (h : Adds live b k l s u) : Adds live b k l s u.takeTerm := h.of_frame rfl rfl

theorem Adds.takeReset (h : Adds live b k l s u) (reset : ¬ live) : Adds live b k l s u.takeReset := by
  obtain ⟨es, grown, buses, sinks, logs, -⟩ := h
  exact ⟨es, grown, buses, sinks, logs, fun isLive => absurd isLive reset⟩

/-- One more item on the trace, which is no `LOG` record. -/
theorem Adds.item {e : Event} (h : Adds live b k l s u) (silent : logged [e] = []) (trace : t.trace = u.trace ++ [e]) (err : t.err = u.err) :
    Adds live (b + ([e].filter Event.isBus).length) (k + ([e].filter Event.isSink).length) l s t := by
  obtain ⟨es, grown, buses, sinks, logs, mirrored⟩ := h
  refine ⟨es ++ [e], by rw [trace, grown, List.append_assoc], ?_, ?_, ?_, ?_⟩
  · rw [List.filter_append, List.length_append]
    omega
  · rw [List.filter_append, List.length_append]
    omega
  · rwa [logged_append, silent, List.append_nil]
  · rwa [logged_append, silent, List.append_nil, err]

/-- Every `raise` puts one record on `LOG`, the one it leaves in `ERR` (R163). -/
theorem Adds.raise (h : Adds live b k l s u) (e : ErrKind) (addr : Byte) (rw : Bool) : Adds live b k (l + 1) s (u.raise e addr rw) := by
  obtain ⟨es, grown, buses, sinks, logs, -⟩ := h
  obtain ⟨-, trace⟩ := u.raise_record e addr rw
  have record : logged (es ++ [.log (u.raise e addr rw).err]) = logged es ++ [(u.raise e addr rw).err] := logged_append _ _
  refine ⟨es ++ [.log (u.raise e addr rw).err], by rw [trace, grown, List.append_assoc], ?_, ?_, ?_, fun _ => ?_⟩
  · simpa [List.filter_append, Event.isBus] using buses
  · simpa [List.filter_append, Event.isSink] using sinks
  · simpa [record] using logs
  · rw [record, List.getLastD_concat]

end

/-! ### The shared operations -/

/-- The bounds of a step (R172). -/
abbrev Bounded (live : Prop) (s t : State) : Prop := Adds live 2 1 1 s t

section

variable {live : Prop} {n : Nat} {s u : State}

/-- The first or second transaction of an op, before which the op only made transactions. -/
theorem Adds.transact {α : Type} {carry : BusAnswer → Memory → α × Memory} {event : α → Event} {k : α → State → State}
    (h : Adds live n 0 0 s u) (room : n < 2) (alive : live → firstStop (busPoints u.nextBus) ≠ .reset)
    (bus : ∀ r, (event r).isBus = true)
    (next : ∀ v, busQuiet u.nextBus = true → v.nextBus = u.secondBus → Adds live (n + 1) 0 0 s v →
      Bounded live s (k (u.replyOf carry) v)) : Bounded live s (u.transact carry event k) := by
  have drawn : Bounded live s u.drawBus := (h.of_frame rfl rfl).mono room.le
  have item (e : Event) (isBus : e.isBus = true) {t : State} (trace : t.trace = u.trace ++ [e]) (err : t.err = u.err) :
      Adds live (n + 1) 0 0 s t := by
    cases e with
    | r1 | r2 | w1 => exact h.item rfl trace err
    | log | sink | wait => cases isBus
  have answered : Adds live (n + 1) 0 0 s (u.carried carry event) := item _ (bus _) rfl rfl
  have bounded : Bounded live s (u.carried carry event) := answered.mono room
  exact State.transact_ind (fun _ => drawn.takeTerm)
    (fun before => drawn.takeReset fun isLive => alive isLive (by simp [busPoints, firstStop, before]))
    (fun _ _ => bounded.takeTerm)
    (fun before after => bounded.takeReset fun isLive => alive isLive (by simp [busPoints, firstStop, before, after]))
    (fun before after => next _ ((busQuiet_iff _).2 ⟨before, after⟩) rfl answered)

theorem Adds.memRead1 {a : Byte} {k : Option Byte → State → State} (h : Adds live n 0 0 s u) (room : n < 2)
    (alive : live → firstStop (busPoints u.nextBus) ≠ .reset)
    (next : ∀ v, busQuiet u.nextBus = true → v.nextBus = u.secondBus → Adds live (n + 1) 0 0 s v →
      Bounded live s (k (replyByte u.nextBus u.cells a.toNat) v)) : Bounded live s (u.memRead1 a k) :=
  h.transact room alive (fun _ => rfl) next

theorem Adds.memRead2 {a : Byte} {k : Option Word → State → State} (h : Adds live n 0 0 s u) (room : n < 2)
    (alive : live → firstStop (busPoints u.nextBus) ≠ .reset)
    (next : ∀ r v, Adds live (n + 1) 0 0 s v → Bounded live s (k r v)) : Bounded live s (u.memRead2 a k) :=
  h.transact room alive (fun _ => rfl) fun v _ _ => next _ v

theorem Adds.memWrite1 {a w : Byte} {k : Bool → State → State} (h : Adds live n 0 0 s u) (room : n < 2)
    (alive : live → firstStop (busPoints u.nextBus) ≠ .reset)
    (next : ∀ ok v, Adds live (n + 1) 0 0 s v → Bounded live s (k ok v)) : Bounded live s (u.memWrite1 a w k) :=
  h.transact room alive (fun _ => rfl) fun v _ _ => next _ v

theorem Adds.heaterRmw {change : Byte → Byte} {done : Option Bool → State → State} (h : Adds live 0 0 0 s u)
    (first : live → firstStop (busPoints u.nextBus) ≠ .reset)
    (second : live → busQuiet u.nextBus = true → (replyByte u.nextBus u.cells u.cfg.aHeater.toNat).isSome = true →
      firstStop (busPoints u.secondBus) ≠ .reset)
    (next : ∀ failed v, Adds live 2 0 0 s v → Bounded live s (done failed v)) : Bounded live s (u.heaterRmw change done) := by
  refine h.memRead1 (by decide) first fun v quiet answer hv => ?_
  cases reply : replyByte u.nextBus u.cells u.cfg.aHeater.toNat with
  | none => exact next _ v hv.mono
  | some b =>
    have latched : Adds live 1 0 0 s { v with hreg := some b } := hv.of_frame rfl rfl
    exact latched.memWrite1 (by decide) (fun isLive => answer ▸ second isLive quiet (Option.isSome_of_eq_some reply)) fun ok w => next _ w

theorem Adds.sinkRequest {text : List Byte} {k : Bool → State → State} (h : Adds live 0 0 0 s u)
    (alive : live → firstStop [u.nextSink.before, u.nextSink.after] ≠ .reset)
    (next : ∀ ok v, Adds live 0 1 0 s v → Bounded live s (k ok v)) : Bounded live s (u.sinkRequest text k) := by
  have drawn : Bounded live s u.drawSink := (h.of_frame rfl rfl).mono
  have answered (left : Option (List Byte)) : Adds live 0 1 0 s ((u.drawSink.setSink left).record (.sink text u.nextSink.ok)) :=
    h.item (e := .sink text u.nextSink.ok) rfl rfl rfl
  unfold State.sinkRequest
  refine State.pass_ind (fun _ => drawn.takeTerm)
    (fun before => drawn.takeReset fun isLive => alive isLive (by simp [firstStop, before])) fun before => ?_
  exact State.pass_ind (fun _ => (answered _).mono.takeTerm)
    (fun after => (answered _).mono.takeReset fun isLive => alive isLive (by simp [firstStop, before, after]))
    fun _ => next _ _ (answered _)

theorem Adds.wait {k : State → State} (h : Adds live 0 0 0 s u) (alive : live → firstStop [u.nextWait.what] ≠ .reset)
    (next : ∀ v, Adds live 0 0 0 s v → Bounded live s (k v)) : Bounded live s (u.wait k) := by
  obtain ⟨n, passed⟩ := u.wait_eq_pass k
  have waited : Adds live 0 0 0 s ({ u.drawWait with tmr := u.tmr - n }.record (.wait n)) := h.item (e := .wait n) rfl rfl rfl
  rw [passed]
  exact State.pass_ind (fun _ => waited.mono.takeTerm)
    (fun what => waited.mono.takeReset fun isLive => alive isLive (by simp [firstStop, what])) fun _ => next _ waited

end

/-! ### The ops and the step -/

theorem exec_bounded {i : Instr} {s t : State} (h : exec i s = .next t) : Bounded (s.opInterrupt i ≠ .reset) s t := by
  have start {live : Prop} : Adds live 0 0 0 s s := Adds.refl s
  have first (bus : i ∈ busOps) (live : s.opInterrupt i ≠ .reset) := State.first_not_reset bus live
  have second (heater : i ∈ heaterOps) (live : s.opInterrupt i ≠ .reset) := State.second_not_reset heater live
  cases i with
  | cfgav | cfgctl =>
    obtain ⟨-, ⟨⟩⟩ := onCells_next h
    refine start.memWrite1 (by decide) (first (by decide)) fun ok v hv => ?_
    cases ok
    · exact (hv.raise _ _ _).mono
    · exact (hv.of_frame rfl rfl).mono
  | ldh0 | ldh1 | ldt0l | ldt1l | ldtmsb =>
    obtain ⟨-, ⟨⟩⟩ := onCells_next h
    refine start.memRead1 (by decide) (first (by decide)) fun v _ _ hv => ?_
    split
    · exact (hv.of_frame rfl rfl).mono
    · exact (hv.raise _ _ _).mono
  | ldh2 | ldh3 | ldt2 | ldt3 | rdhum | rdtemp =>
    obtain ⟨-, ⟨⟩⟩ := onCells_next h
    refine start.memRead2 (by decide) (first (by decide)) fun r v hv => ?_
    cases r
    · exact (hv.raise _ _ _).mono
    · exact (hv.of_frame rfl rfl).mono
  | unpkt =>
    obtain ⟨_, -, h⟩ := need_next h
    obtain ⟨_, -, h⟩ := need_next h
    obtain ⟨_, -, ⟨⟩⟩ := need_next h
    exact (start.of_frame rfl rfl).mono
  | chkcal =>
    obtain ⟨_, -, h⟩ := need_next h
    obtain ⟨_, -, h⟩ := need_next h
    obtain ⟨_, -, h⟩ := need_next h
    obtain ⟨_, -, ⟨⟩⟩ := need_next h
    split
    · exact (start.raise _ _ _).mono
    · exact (start.of_frame rfl rfl).mono
  | cvhum | cvtc =>
    obtain ⟨_, -, h⟩ := need_next h
    obtain ⟨_, -, h⟩ := need_next h
    obtain ⟨_, -, h⟩ := need_next h
    obtain ⟨_, -, h⟩ := need_next h
    obtain ⟨_, -, h⟩ := need_next h
    obtain ⟨-, -, ⟨⟩⟩ := convertible_next h
    exact (start.of_frame rfl rfl).mono
  | clamph | cvtf | satchk =>
    obtain ⟨_, -, ⟨⟩⟩ := need_next h
    exact (start.of_frame rfl rfl).mono
  | htron =>
    obtain ⟨-, ⟨⟩⟩ := onCells_next h
    refine Adds.heaterRmw (u := s.heatingBegun) (start.of_frame rfl rfl) (first (by decide)) (second (by decide)) fun failed v hv => ?_
    cases failed
    · exact (hv.of_frame rfl rfl).mono
    · exact ((hv.raise _ _ _).of_frame rfl rfl).mono
  | htroff =>
    obtain ⟨-, ⟨⟩⟩ := onCells_next h
    refine start.heaterRmw (first (by decide)) (second (by decide)) fun failed v hv => ?_
    cases failed
    · exact (hv.of_frame rfl rfl).mono
    · exact (Adds.raise (u := (v.setHtrUnsafe true).setHs .idle) (hv.of_frame rfl rfl) _ _ _).mono
  | retry =>
    obtain ⟨_, -, ⟨⟩⟩ := need_next h
    split_ifs
    · exact (start.of_frame rfl rfl).mono
    · exact ((Adds.raise (u := (s.setSatUnres true).setHs .idle) (start.of_frame rfl rfl) _ _ _).of_frame rfl rfl).mono
    · exact (start.of_frame rfl rfl).mono
  | emit =>
    obtain ⟨_, -, h⟩ := need_next h
    obtain ⟨_, -, h⟩ := need_next h
    obtain ⟨_, -, ⟨⟩⟩ := need_next h
    refine start.sinkRequest id fun ok v hv => ?_
    cases ok
    · exact (hv.raise _ _ _).mono
    · exact (hv.of_frame rfl rfl).mono
  | dwell =>
    obtain ⟨⟩ := h
    exact Adds.wait (u := s.loadTimer s.cfg.dwellTicks) (start.of_frame rfl rfl) id fun v hv => (hv.of_frame rfl rfl).mono
  | sleep =>
    obtain ⟨⟩ := h
    exact Adds.wait (u := s.loadTimer s.cfg.cycleTicks) (start.of_frame rfl rfl) id fun v hv => (hv.of_frame rfl rfl).mono
  | halt =>
    obtain ⟨⟩ := h
    exact (start.of_frame rfl rfl).mono

/-- Settles O32: the choice before the op adds nothing, and the op at most that much. -/
theorem stepPortsAreBounded : Obligations.StepPortsAreBounded := by
  intro s t run
  have drawn {live : Prop} : Bounded live s s.drawEvent := ((Adds.refl s).of_frame rfl rfl).mono
  obtain ⟨reset, rfl⟩ | ⟨-, -, rfl⟩ | ⟨-, i, -, ran, interrupt, -⟩ := step_points run
  · exact drawn.takeReset (fun (noReset : s.noReset) => noReset reset)
  · exact drawn.takeTerm
  · rw [State.noReset, interrupt]
    exact exec_bounded ran

end Sys2Proof.Machine

/-! SUPPORT. When an op stops: exactly for want of an operand or of a usable calibration (60_exceptions R181 a, d; 10_state R11), and that the
invariant leaves no step a cause to. -/

namespace Sys2Proof.Machine

open Sys2Proof

/-! ### The operands of an op, read in order -/

/-- The first of these registers that holds no value. -/
def firstMissing (operands : List (RegName × Bool)) : Option RegName := (operands.find? fun p => !p.2).map Prod.fst

theorem State.missing_eq (s : State) (i : Instr) : s.missing i = firstMissing (s.operands i) := rfl

theorem firstMissing_cons (r : RegName) (held : Bool) (rest : List (RegName × Bool)) :
    firstMissing ((r, held) :: rest) = if held then firstMissing rest else some r := by
  cases held <;> rfl

/-- An op that reads `operands` in order ends in the fault of the first without a value, and if all hold one and `ready` is so it gives a
next state. -/
structure Reads (ready : Prop) (operands : List (RegName × Bool)) (o : Out) : Prop where
  fault_iff : ∀ r, o = .fault (.noValue r) ↔ firstMissing operands = some r
  runs : firstMissing operands = none → ready → ∃ t, o = .next t

section

variable {ready : Prop} {o : Out}

theorem Reads.next (t : State) : Reads ready [] (.next t) := ⟨fun _ => ⟨nofun, nofun⟩, fun _ _ => ⟨t, rfl⟩⟩

theorem Reads.need {α : Type} {r : RegName} {v : Option α} {k : α → Out} {rest : List (RegName × Bool)}
    (h : ∀ x, v = some x → Reads ready rest (k x)) : Reads ready ((r, v.isSome) :: rest) (need r v k) := by
  cases v with
  | none => exact ⟨fun q => by simp [firstMissing_cons], fun held => by simp [firstMissing_cons] at held⟩
  | some x =>
    obtain ⟨fault_iff, runs⟩ := h x rfl
    exact ⟨fun q => by simpa [firstMissing_cons] using fault_iff q, fun held => runs (by simpa [firstMissing_cons] using held)⟩

theorem Reads.onCells {a : Byte} {n : Nat} (fits : ready → a.toNat + n ≤ 128) (h : Reads ready [] o) : Reads ready [] (onCells a n o) := by
  refine ⟨fun r => ?_, fun held isReady => ?_⟩
  · unfold Machine.onCells
    split
    · exact h.fault_iff r
    · exact ⟨nofun, nofun⟩
  · rw [onCells_of_le (fits isReady)]
    exact h.runs held isReady

theorem Reads.convertible {valid : Bool} {low high : Word} (usable : ready → valid = true ∧ high ≠ low) (h : Reads ready [] o) :
    Reads ready [] (convertible valid low high o) := by
  refine ⟨fun r => ?_, fun held isReady => ?_⟩
  · unfold Machine.convertible
    split_ifs
    · exact ⟨nofun, nofun⟩
    · exact h.fault_iff r
    · exact ⟨nofun, nofun⟩
  · obtain ⟨valid, apart⟩ := usable isReady
    rw [valid, convertible_of_valid apart]
    exact h.runs held isReady

end

theorem CalFile.usable_apart {c : CalFile} (h : c.usable = true) : c.h3 ≠ c.h2 ∧ c.t3 ≠ c.t2 := by
  simp only [CalFile.usable, Bool.and_eq_true, decide_eq_true_eq] at h
  obtain ⟨⟨-, hum⟩, temp⟩ := h
  exact ⟨hum, temp⟩

/-- What an op needs besides its operands: a configuration that meets 00 R7, and a conversion a calibration that may be used. -/
def State.Ready (s : State) (i : Instr) : Prop :=
  s.cfg.ok = true ∧ (i = .cvhum ∨ i = .cvtc → s.f.calValid = true ∧ s.cal.usable = true)

/-- The operands an op reads are those of `State.operands`, in this order. -/
theorem exec_reads (i : Instr) (s : State) : Reads (s.Ready i) (s.operands i) (exec i s) := by
  have base {a : Byte} (mem : a ∈ s.cfg.bases) (ready : s.Ready i) : a.toNat + 1 ≤ 128 := Cfg.base_lt ready.1 mem
  have pair {a : Byte} (mem : a ∈ s.cfg.pairBases) (ready : s.Ready i) : a.toNat + 2 ≤ 128 := Cfg.pair_lt ready.1 mem
  cases i with
  | cfgav | cfgctl | ldh0 | ldh1 | ldt0l | ldt1l | ldtmsb | htron | htroff => exact .onCells (base (by simp [Cfg.bases])) (.next _)
  | ldh2 | ldh3 | ldt2 | ldt3 | rdhum | rdtemp => exact .onCells (pair (by simp [Cfg.pairBases])) (.next _)
  | unpkt | emit => exact .need fun _ _ => .need fun _ _ => .need fun _ _ => .next _
  | chkcal => exact .need fun _ _ => .need fun _ _ => .need fun _ _ => .need fun _ _ => .next _
  | cvhum =>
    refine .need fun _ _ => .need fun _ _ => .need fun _ _ => .need fun h2 eq2 => .need fun h3 eq3 => .convertible (fun ready => ?_) (.next _)
    obtain ⟨valid, usable⟩ := ready.2 (.inl rfl)
    exact ⟨valid, fun same => (CalFile.usable_apart usable).1 (by rw [eq2, eq3, same])⟩
  | cvtc =>
    refine .need fun _ _ => .need fun _ _ => .need fun _ _ => .need fun t2 eq2 => .need fun t3 eq3 => .convertible (fun ready => ?_) (.next _)
    obtain ⟨valid, usable⟩ := ready.2 (.inr rfl)
    exact ⟨valid, fun same => (CalFile.usable_apart usable).2 (by rw [eq2, eq3, same])⟩
  | clamph | cvtf | satchk | retry => exact .need fun _ _ => .next _
  | dwell | sleep | halt => exact .next _

/-- Settles O58: the operands op by op, and the two checks of a conversion in their order. -/
theorem opsFaultWithoutOperands : Obligations.OpsFaultWithoutOperands := by
  refine fun s => ⟨fun i => (exec_reads i s).fault_iff, fun raw h2 h3 h0 h1 eqr eq0 eq1 eq2 eq3 => ?_,
    fun raw t2 t3 t0 t1 eqr eq0 eq1 eq2 eq3 => ?_⟩
  · change (_ → execCvhum s = _) ∧ (_ → _ → execCvhum s = _)
    rw [execCvhum, eqr, eq0, eq1, eq2, eq3]
    exact ⟨fun invalid => by rw [invalid]; rfl, fun valid same => by rw [valid, same]; exact if_pos rfl⟩
  · change (_ → execCvtc s = _) ∧ (_ → _ → execCvtc s = _)
    rw [execCvtc, eqr, eq0, eq1, eq2, eq3]
    exact ⟨fun invalid => by rw [invalid]; rfl, fun valid same => by rw [valid, same]; exact if_pos rfl⟩

/-! ### From the invariant -/

theorem step_of_reset {s : State} (ok : s.cfg.ok = true) (event : s.nextEvent = .reset) : step s = .next s.drawEvent.takeReset := by
  simp [step, beforeOp, ok, event]

theorem firstMissing_eq_none_iff {operands : List (RegName × Bool)} : firstMissing operands = none ↔ ∀ p ∈ operands, p.2 = true := by
  simp [firstMissing]

/-- All the registers that `CalFile.usable` asks for. -/
theorem CalFile.usable_isSome {c : CalFile} (h : c.usable = true) :
    c.h0.isSome = true ∧ c.h1.isSome = true ∧ c.h2.isSome = true ∧ c.h3.isSome = true ∧
    c.t0.isSome = true ∧ c.t1.isSome = true ∧ c.t2.isSome = true ∧ c.t3.isSome = true := by
  simp only [CalFile.usable, Bool.and_eq_true, and_assoc] at h
  tauto

theorem rom_conversion {ph : Byte} {i : Instr} (h : (ph, i) ∈ romTable) (conversion : i = .cvhum ∨ i = .cvtc) : inCycle ph = true :=
  (by decide : ∀ p ∈ romTable, p.2 = .cvhum ∨ p.2 = .cvtc → inCycle p.1 = true) _ h conversion

/-- At the phase of an op every operand of it holds a value (10_state R11). -/
theorem State.missing_eq_none {s : State} {i : Instr} (regs : s.regInv = true) (stands : (s.ph, i) ∈ romTable) : s.missing i = none := by
  have one := rom_phaseOf stands
  have calibrated (cycle : inCycle s.ph = true) : s.Calibrated := by
    obtain ⟨-, calibrated, -⟩ := (State.regInv_cycle cycle).1 regs
    exact calibrated
  simp only [State.regInv, Bool.and_eq_true] at regs
  obtain ⟨⟨-, loaded⟩, sampled⟩ := regs
  rw [s.missing_eq, firstMissing_eq_none_iff]
  cases i with
  | unpkt | chkcal =>
    have here := one nofun nofun
    simp_all [State.operands, State.loaded, inBoot, phaseOf]
  | cvhum =>
    obtain ⟨-, -, -, usable⟩ := calibrated (rom_conversion stands (.inl rfl))
    have held := CalFile.usable_isSome usable
    obtain here | here : s.ph = 0x11 ∨ s.ph = 0x17 := by simpa [romTable] using stands
    all_goals simp_all [State.operands, State.sampled]
  | cvtc =>
    obtain ⟨-, -, -, usable⟩ := calibrated (rom_conversion stands (.inr rfl))
    have held := CalFile.usable_isSome usable
    have here := one nofun nofun
    simp_all [State.operands, State.sampled, phaseOf]
  | clamph | cvtf | satchk | retry | emit =>
    have here := one nofun nofun
    simp_all [State.operands, State.sampled, phaseOf]
  | _ => exact fun _ none => absurd none List.not_mem_nil

theorem hsAt_ne_pattern3 : ∀ ph : Byte, hsAt ph ≠ .pattern3 := by decide +kernel

/-- The pattern 3 is no heater state of the invariant (10_state R18). -/
theorem State.hs_ne_pattern3 {s : State} (heater : s.heaterPart = true) : s.hs ≠ .pattern3 := by
  obtain ⟨tied | ⟨-, cooldown | ⟨-, heating⟩⟩, -⟩ := s.heaterPart_iff.1 heater
  · exact tied ▸ hsAt_ne_pattern3 s.ph
  · simp [cooldown]
  · simp [heating]

/-- At a phase of the invariant an op stands. -/
theorem State.exists_op {s : State} (regs : s.regInv = true) : ∃ i, (s.ph, i) ∈ romTable := by
  simp only [State.regInv, Bool.and_eq_true, and_assoc] at regs
  obtain ⟨c, code⟩ := Option.isSome_iff_exists.1 regs.1
  obtain ⟨i, op⟩ := Option.isSome_iff_exists.1 (rom_decodes s.ph c code)
  exact ⟨i, rom_mem s.ph c code i op⟩

/-- Settles O42: the op at the phase finds its operands, and a conversion a calibration that may be used. -/
theorem noModelFaultIsReachable : Obligations.NoModelFaultIsReachable := by
  intro s inv
  obtain ⟨ok, -, regs⟩ := s.inv_iff.1 inv
  cases term : s.f.term with
  | true =>
    by_cases reset : s.nextEvent = .reset
    · exact .inl ⟨_, step_of_reset ok reset⟩
    · exact .inr ⟨rfl, terminatedBlockTakesNoStep s ok term reset⟩
  | false =>
    refine .inl ?_
    cases event : s.nextEvent with
    | reset => exact ⟨_, step_of_reset ok event⟩
    | term => exact ⟨_, step_of_term ok event term⟩
    | none =>
      obtain ⟨i, stands⟩ := State.exists_op regs
      have ready : s.drawEvent.Ready i := ⟨ok, fun conversion => s.calibrated_of_inCycle inv (rom_conversion stands conversion)⟩
      rw [step_of_no_event ok event term,
        fetchOp_of_opHere (s := s.drawEvent) (State.hs_ne_pattern3 (s.heaterPart_of_inv inv)) (rom_op _ stands)]
      exact (exec_reads i s.drawEvent).runs (State.missing_eq_none (s := s.drawEvent) regs stands) ready

end Sys2Proof.Machine

/-! SUPPORT. The device's heater bit under P1 and P2 (70 R204): only `HTRON` and `HTROFF` touch it, the one ending in `Heating`, the other
with the bit cleared or `F.htr_unsafe` set. -/

namespace Sys2Proof.Machine

open Sys2Proof

/-! ### What the claim says -/

theorem State.heaterBit_eq_false_iff (s : State) :
    s.heaterBit = false ↔ Memory.cell s.env.dev s.cfg.aHeater.toNat &&& s.cfg.heaterMask = 0 := by
  simp [State.heaterBit]

theorem State.heaterSafe_iff (s : State) :
    s.heaterSafe = true ↔ (s.f.htrUnsafe = false → s.hs ≠ .heating → s.heaterBit = false) := by
  simp [State.heaterSafe]

theorem State.heaterSafe_of_heating {s : State} (heating : s.hs = .heating) : s.heaterSafe = true :=
  s.heaterSafe_iff.2 fun _ away => absurd heating away

theorem State.heaterSafe_of_htrUnsafe {s : State} (failed : s.f.htrUnsafe = true) : s.heaterSafe = true :=
  s.heaterSafe_iff.2 fun safe => absurd (failed.symm.trans safe) nofun

theorem State.heaterSafe_of_heaterBit {s : State} (off : s.heaterBit = false) : s.heaterSafe = true :=
  s.heaterSafe_iff.2 fun _ _ => off

/-- Settles O44: a reset block is idle with no failed disable, and so is a block outside the intervention. -/
theorem heaterOffAtResetNeedsP4 : Obligations.HeaterOffAtResetNeedsP4 := by
  refine ⟨fun c e => ?_, fun s inv safe disabled outside => ?_⟩
  · rw [State.heaterSafe_iff]
    exact ⟨fun p4 _ _ => p4, fun claim => claim rfl nofun⟩
  · have idle : s.hs = .idle := ((State.heaterPart_outside (by omega)).1 (s.heaterPart_of_inv inv)).1
    exact ⟨idle, s.heaterSafe_iff.1 safe disabled (by simp [idle])⟩

/-! ### The shared operations without `RESET` -/

theorem State.transact_live_ind {α : Type} {P : State → Prop} {s : State} {carry : BusAnswer → Memory → α × Memory}
    {event : α → Event} {k : α → State → State} (live : firstStop (busPoints s.nextBus) ≠ .reset)
    (term : ∀ env trace, P { s.takeTerm with env := env, trace := trace })
    (next : busQuiet s.nextBus = true → P (k (s.replyOf carry) (s.carried carry event))) : P (s.transact carry event k) :=
  State.transact_ind (fun _ => term s.drawBus.env s.trace) (fun before => absurd (by simp [busPoints, firstStop, before]) live)
    (fun _ _ => term (s.carried carry event).env (s.carried carry event).trace)
    (fun before after => absurd (by simp [busPoints, firstStop, before, after]) live)
    (fun before after => next ((busQuiet_iff _).2 ⟨before, after⟩))

/-- A write ends at a `TERM`, or is answered `Err`, or is answered `Ok` and so, under P2, leaves its byte in the cell. -/
theorem State.memWrite1_live_ind {P : State → Prop} {s : State} {a v : Byte} {k : Bool → State → State} (fits : a.toNat < 128)
    (live : firstStop (busPoints s.nextBus) ≠ .reset) (effective : P2 s.nextBus)
    (term : ∀ env trace, P { s.takeTerm with env := env, trace := trace })
    (failed : ∀ env trace, P (k false { s with env := env, trace := trace }))
    (written : ∀ env trace, Memory.cell env.dev a.toNat = v → P (k true { s with env := env, trace := trace })) :
    P (s.memWrite1 a v k) := by
  unfold State.memWrite1
  refine State.transact_live_ind live term fun _ => ?_
  change P (k s.nextBus.ok _)
  cases ok : s.nextBus.ok with
  | false => exact failed _ _
  | true =>
    have stored : Memory.cell (writtenCells s.nextBus s.cells a.toNat v) a.toNat = v := by
      rw [writtenCells_of_took (effective ok), Memory.cell_write _ _ _ _ fits, if_pos rfl]
    exact written _ _ stored

/-- A heater op ends at a `TERM`, or with a failed read or write, or with the changed byte in the device's cell. -/
theorem State.heaterRmw_live_ind {P : State → Prop} {s : State} {change : Byte → Byte} {done : Option Bool → State → State}
    (fits : s.cfg.aHeater.toNat < 128) (first : firstStop (busPoints s.nextBus) ≠ .reset)
    (second : busQuiet s.nextBus = true → (replyByte s.nextBus s.cells s.cfg.aHeater.toNat).isSome = true →
      firstStop (busPoints s.secondBus) ≠ .reset ∧ P2 s.secondBus)
    (term : ∀ hreg env trace, P { s.takeTerm with hreg := hreg, env := env, trace := trace })
    (failed : ∀ rw hreg env trace, P (done (some rw) { s with hreg := hreg, env := env, trace := trace }))
    (written : ∀ b hreg env trace, Memory.cell env.dev s.cfg.aHeater.toNat = change b →
      P (done none { s with hreg := hreg, env := env, trace := trace })) : P (s.heaterRmw change done) := by
  unfold State.heaterRmw State.memRead1
  refine State.transact_live_ind first (term s.hreg) fun quiet => ?_
  cases reply : s.replyOf fun an m => (replyByte an m s.cfg.aHeater.toNat, readCells an m) with
  | none => exact failed false s.hreg _ _
  | some b =>
    obtain ⟨live, effective⟩ := second quiet (Option.isSome_of_eq_some reply)
    exact State.memWrite1_live_ind (s := { s.carried _ _ with hreg := some b }) fits live effective (term (some b))
      (failed true (some b)) (written b (some b))

theorem State.sinkRequest_live_ind {P : State → Prop} {s : State} {text : List Byte} {k : Bool → State → State}
    (live : firstStop [s.nextSink.before, s.nextSink.after] ≠ .reset)
    (term : ∀ env trace, P { s.takeTerm with env := env, trace := trace })
    (next : ∀ ok env trace, P (k ok { s with env := env, trace := trace })) : P (s.sinkRequest text k) := by
  unfold State.sinkRequest
  refine State.pass_ind (fun _ => term _ s.trace) (fun before => absurd (by simp [firstStop, before]) live) fun before => ?_
  exact State.pass_ind (fun _ => term _ _) (fun after => absurd (by simp [firstStop, before, after]) live) fun _ => next _ _ _

theorem State.wait_live_ind {P : State → Prop} {s : State} {k : State → State} (live : firstStop [s.nextWait.what] ≠ .reset)
    (term : ∀ tmr env trace, P { s.takeTerm with tmr := tmr, env := env, trace := trace })
    (next : ∀ tmr env trace, P (k { s with tmr := tmr, env := env, trace := trace })) : P (s.wait k) := by
  obtain ⟨n, passed⟩ := s.wait_eq_pass k
  rw [passed]
  exact State.pass_ind (fun _ => term _ _ _) (fun what => absurd (by simp [firstStop, what]) live) fun _ => next _ _ _

/-! ### The ops -/

section

variable {s t : State}

/-- 10 R19: of the ops only `HTROFF` writes `F.htr_unsafe`. -/
theorem exec_htrUnsafe {i : Instr} (h : exec i s = .next t) (other : i ∉ heaterOps) (live : s.opInterrupt i ≠ .reset) :
    t.f.htrUnsafe = s.f.htrUnsafe := by
  have first (hi : i ∈ busOps) : firstStop (busPoints s.nextBus) ≠ .reset := State.first_not_reset hi live
  cases i with
  | htron | htroff => exact absurd (by decide) other
  | cfgav | cfgctl | ldh0 | ldh1 | ldh2 | ldh3 | ldt0l | ldt1l | ldtmsb | ldt2 | ldt3 | rdhum | rdtemp =>
    obtain ⟨-, ⟨⟩⟩ := onCells_next h
    refine State.transact_live_ind (P := fun v => v.f.htrUnsafe = s.f.htrUnsafe) (first (by decide)) (fun _ _ => rfl) fun _ => ?_
    dsimp only
    split <;> rfl
  | unpkt =>
    obtain ⟨_, -, h⟩ := need_next h
    obtain ⟨_, -, h⟩ := need_next h
    obtain ⟨_, -, ⟨⟩⟩ := need_next h
    rfl
  | chkcal =>
    obtain ⟨_, -, h⟩ := need_next h
    obtain ⟨_, -, h⟩ := need_next h
    obtain ⟨_, -, h⟩ := need_next h
    obtain ⟨_, -, ⟨⟩⟩ := need_next h
    split <;> rfl
  | cvhum | cvtc =>
    obtain ⟨_, -, h⟩ := need_next h
    obtain ⟨_, -, h⟩ := need_next h
    obtain ⟨_, -, h⟩ := need_next h
    obtain ⟨_, -, h⟩ := need_next h
    obtain ⟨_, -, h⟩ := need_next h
    obtain ⟨-, -, ⟨⟩⟩ := convertible_next h
    rfl
  | clamph | cvtf | satchk =>
    obtain ⟨_, -, ⟨⟩⟩ := need_next h
    rfl
  | retry =>
    obtain ⟨_, -, ⟨⟩⟩ := need_next h
    split_ifs <;> rfl
  | emit =>
    obtain ⟨_, -, h⟩ := need_next h
    obtain ⟨_, -, h⟩ := need_next h
    obtain ⟨_, -, ⟨⟩⟩ := need_next h
    refine State.sinkRequest_live_ind (P := fun v => v.f.htrUnsafe = s.f.htrUnsafe) live (fun _ _ => rfl) fun ok _ _ => ?_
    cases ok <;> rfl
  | dwell | sleep =>
    obtain ⟨⟩ := h
    exact State.wait_live_ind (P := fun v => v.f.htrUnsafe = s.f.htrUnsafe) live (fun _ _ _ => rfl) fun _ _ _ => rfl
  | halt =>
    obtain ⟨⟩ := h
    rfl

/-- A live block heats only at the phases that R130 ties to `Heating` (log 17). -/
theorem State.hsAt_of_heating (heater : s.heaterPart = true) (alive : s.f.term = false) (heating : s.hs = .heating) :
    hsAt s.ph = .heating := by
  obtain ⟨tied | ⟨-, cooldown | ⟨term, -⟩⟩, -⟩ := s.heaterPart_iff.1 heater
  · exact tied.symm.trans heating
  · exact absurd (heating.symm.trans cooldown) nofun
  · exact absurd (alive.symm.trans term) nofun

theorem rom_heating {ph : Byte} {i : Instr} (h : (ph, i) ∈ romTable) (other : i ∉ heaterOps) (heating : hsAt ph = .heating) :
    i = .dwell :=
  (by decide : ∀ p ∈ romTable, p.2 ∉ heaterOps → hsAt p.1 = .heating → p.2 = .dwell) _ h other heating

theorem exec_dwell_hs (h : exec .dwell s = .next t) (live : s.opInterrupt .dwell ≠ .reset) : t.hs = s.hs := by
  obtain ⟨⟩ := h
  exact State.wait_live_ind (P := fun v => v.hs = s.hs) live (fun _ _ _ => rfl) fun _ _ _ => rfl

theorem State.second_live {i : Instr} (hi : i ∈ heaterOps) (live : s.opInterrupt i ≠ .reset) (p2 : ∀ an ∈ s.opAnswers i, P2 an)
    (quiet : busQuiet s.nextBus = true) (reply : (replyByte s.nextBus s.cells s.cfg.aHeater.toNat).isSome = true) :
    firstStop (busPoints s.secondBus) ≠ .reset ∧ P2 s.secondBus :=
  ⟨State.second_not_reset hi live quiet reply, p2 _ (s.secondBus_mem_opAnswers hi quiet reply)⟩

/-- `Heating` is written before the read (42 R122, 92 D16). -/
theorem exec_htron_heating (h : exec .htron s = .next t) (live : s.opInterrupt .htron ≠ .reset) (p2 : ∀ an ∈ s.opAnswers .htron, P2 an) :
    t.hs = .heating := by
  obtain ⟨fits, ⟨⟩⟩ := onCells_next h
  have first : firstStop (busPoints s.nextBus) ≠ .reset := State.first_not_reset (by decide) live
  have second := State.second_live (by decide) live p2
  exact State.heaterRmw_live_ind (s := s.heatingBegun) (P := fun v => v.hs = .heating) fits first second
    (fun _ _ _ => rfl) (fun _ _ _ _ => rfl) fun _ _ _ _ _ => rfl

/-- A `TERM` inside leaves `Heating`, a failure sets `F.htr_unsafe`, and a write answered `Ok` clears the bit (42 R125). -/
theorem exec_htroff_heaterSafe (h : exec .htroff s = .next t) (live : s.opInterrupt .htroff ≠ .reset)
    (p2 : ∀ an ∈ s.opAnswers .htroff, P2 an) (heating : s.hs = .heating) : t.heaterSafe = true := by
  obtain ⟨fits, ⟨⟩⟩ := onCells_next h
  refine State.heaterRmw_live_ind (P := fun v => v.heaterSafe = true) fits (State.first_not_reset (by decide) live)
    (State.second_live (by decide) live p2)
    (fun _ _ _ => State.heaterSafe_of_heating heating) (fun _ _ _ _ => State.heaterSafe_of_htrUnsafe rfl) fun b _ env _ cell => ?_
  have off : Memory.cell env.dev s.cfg.aHeater.toNat &&& s.cfg.heaterMask = 0 := by rw [cell, heaterOff_and]
  exact State.heaterSafe_of_heaterBit ((State.heaterBit_eq_false_iff _).2 off)

/-- 42 R132: the op at the phase of a live block keeps the claim. Only `DWELL` and `HTROFF` stand at a phase of `Heating`. -/
theorem exec_heaterSafe {i : Instr} (ok : s.cfg.ok = true) (stands : (s.ph, i) ∈ romTable) (heater : s.heaterPart = true) (alive : s.f.term = false)
    (safe : s.heaterSafe = true) (live : s.opInterrupt i ≠ .reset) (answers : ∀ an ∈ s.opAnswers i, P1 s.cfg an ∧ P2 an)
    (h : exec i s = .next t) : t.heaterSafe = true := by
  by_cases rmw : i ∈ heaterOps
  · have p2 : ∀ an ∈ s.opAnswers i, P2 an := fun an drawn => (answers an drawn).2
    obtain rfl | rfl : i = .htron ∨ i = .htroff := by simpa [heaterOps] using rmw
    · exact State.heaterSafe_of_heating (exec_htron_heating h live p2)
    · have here : s.ph = 0x15 := rom_phaseOf stands nofun nofun
      have tied := ((State.heaterPart_inside (by rw [here]; decide) (by rw [here]; decide)).1 heater).1
      exact exec_htroff_heaterSafe h live p2 (tied.trans (by rw [here]; rfl))
  · by_cases heating : s.hs = .heating
    · obtain rfl : i = .dwell := rom_heating stands rmw (State.hsAt_of_heating heater alive heating)
      exact State.heaterSafe_of_heating ((exec_dwell_hs h live).trans heating)
    · obtain ⟨avconf, ctrl⟩ := Cfg.config_ne_heater ok
      have cell : KeepsCell s.cfg.aHeater.toNat s t := exec_keepsCell h (fun an drawn => (answers an drawn).1)
        (fun _ same => avconf (BitVec.eq_of_toNat_eq same.symm)) (fun _ same => ctrl (BitVec.eq_of_toNat_eq same.symm))
        (fun isHeater => absurd (by simpa [heaterOps] using isHeater) rmw)
      have bit : t.heaterBit = s.heaterBit := by
        rw [State.heaterBit, State.heaterBit, (exec_portsKept h).cfg, cell.cell]
      exact t.heaterSafe_iff.2 fun disabled _ =>
        bit.trans (s.heaterSafe_iff.1 safe ((exec_htrUnsafe h rmw live).symm.trans disabled) heating)

end

/-- Settles O43: a `TERM` between two steps changes none of what the claim speaks of; the op by `exec_heaterSafe`. -/
theorem heaterOffUnlessHeating : Obligations.HeaterOffUnlessHeating := by
  intro s t inv safe noReset answers run
  obtain ⟨ok, -, -⟩ := s.inv_iff.1 inv
  obtain ⟨reset, -⟩ | ⟨-, -, rfl⟩ | ⟨alive, i, stands, ran, interrupt, drawn⟩ := step_points run
  · exact absurd reset noReset
  · exact safe
  · exact exec_heaterSafe (s := s.drawEvent) ok stands (s.heaterPart_of_inv inv) alive safe (interrupt ▸ noReset) (drawn ▸ answers) ran

end Sys2Proof.Machine

/-! SUPPORT. `RESET` wherever it is taken leaves the reset registers (70 R190): between two steps, around a transaction or a sink request,
and inside a wait. -/

namespace Sys2Proof.Machine

open Sys2Proof

/-- An op ends in the reset block under the configuration `c`, whatever the environment and the trace then are (R190, R191, log 16). -/
def Resets (c : Cfg) (o : Out) : Prop :=
  ∃ t, o = .next t ∧ t = { State.reset with cfg := c, env := t.env, trace := t.trace }

theorem Resets.takeReset (s : State) : Resets s.cfg (.next s.takeReset) := ⟨_, rfl, rfl⟩

/-! ### The points of an op -/

/-- `RESET` is taken before a request, or after its response. -/
abbrev ResetAround (before after : Async) : Prop := before = .reset ∨ (before = .none ∧ after = .reset)

section

variable {s : State}

theorem Resets.transact {α : Type} {a : Byte} {n : Nat} {carry : BusAnswer → Memory → α × Memory} {event : α → Event}
    {k : α → State → State} (fits : a.toNat + n ≤ 128) (reset : ResetAround s.nextBus.before s.nextBus.after) :
    Resets s.cfg (onCells a n (.next (s.transact carry event k))) := by
  rw [onCells_of_le fits]
  obtain before | ⟨before, after⟩ := reset
  · rw [State.transact_before _ _ _ _ (by simp [before]), before]
    exact .takeReset s.drawBus
  · rw [State.transact_after _ _ _ _ before (by simp [after]), after]
    exact .takeReset (s.carried carry event)

theorem Resets.memRead1 {a : Byte} (fits : a.toNat < 128) (reset : ResetAround s.nextBus.before s.nextBus.after)
    (k : Option Byte → State → State) : Resets s.cfg (onCells a 1 (.next (s.memRead1 a k))) := .transact fits reset

theorem Resets.memRead2 {a : Byte} (fits : a.toNat + 1 < 128) (reset : ResetAround s.nextBus.before s.nextBus.after)
    (k : Option Word → State → State) : Resets s.cfg (onCells a 2 (.next (s.memRead2 a k))) := .transact fits reset

theorem Resets.memWrite1 {a : Byte} (fits : a.toNat < 128) (reset : ResetAround s.nextBus.before s.nextBus.after) (v : Byte)
    (k : Bool → State → State) : Resets s.cfg (onCells a 1 (.next (s.memWrite1 a v k))) := .transact fits reset

theorem Resets.sinkRequest {text : List Byte} {k : Bool → State → State}
    (reset : ResetAround s.nextSink.before s.nextSink.after) : Resets s.cfg (.next (s.sinkRequest text k)) := by
  rw [State.sinkRequest]
  obtain before | ⟨before, after⟩ := reset
  · rw [before]
    exact .takeReset s.drawSink
  · rw [before, State.pass_none, after]
    exact .takeReset _

theorem Resets.wait {k : State → State} (reset : s.nextWait.what = .reset) : Resets s.cfg (.next (s.wait k)) := by
  obtain ⟨n, passed⟩ := s.wait_eq_pass k
  rw [passed, reset, State.pass_reset]
  exact .takeReset ({ s.drawWait with tmr := s.tmr - n }.record (.wait n))

/-! ### The ops -/

/-- Before its first transaction only `HTRON` writes registers, and `RESET` undoes that. -/
theorem exec_resets_of_first {i : Instr} (ok : s.cfg.ok = true) (bus : i ∈ busOps) (reset : ResetAround s.nextBus.before s.nextBus.after) :
    Resets s.cfg (exec i s) := by
  have base {a : Byte} (mem : a ∈ s.cfg.bases) : a.toNat < 128 := Cfg.base_lt ok mem
  have pair {a : Byte} (mem : a ∈ s.cfg.pairBases) : a.toNat + 1 < 128 := Cfg.pair_lt ok mem
  cases i with
  | cfgav | cfgctl =>
    refine Resets.memWrite1 ?_ reset _ _
    exact base (by simp [Cfg.bases])
  | ldh0 | ldh1 | ldt0l | ldt1l | ldtmsb | htroff =>
    refine Resets.memRead1 ?_ reset _
    exact base (by simp [Cfg.bases])
  | ldh2 | ldh3 | ldt2 | ldt3 | rdhum | rdtemp =>
    refine Resets.memRead2 ?_ reset _
    exact pair (by simp [Cfg.pairBases])
  | htron =>
    have fits : s.heatingBegun.cfg.aHeater.toNat < 128 := base (by simp [Cfg.bases, State.heatingBegun, State.setHs])
    exact Resets.memRead1 (s := s.heatingBegun) fits reset _
  | _ => exact absurd bus (by decide)

/-- The write of a read-modify-write, after a read answered `Ok`. -/
theorem Resets.heaterRmw {change : Byte → Byte} {done : Option Bool → State → State} {b : Byte} (fits : s.cfg.aHeater.toNat < 128)
    (read : s.repliesByte s.cfg.aHeater (some b)) (reset : ResetAround s.secondBus.before s.secondBus.after) :
    Resets s.cfg (onCells s.cfg.aHeater 1 (.next (s.heaterRmw change done))) := by
  rw [heaterRmw_read_ok read]
  rw [← s.latched_nextBus b] at reset
  exact Resets.memWrite1 (s := s.latched b) fits reset _ _

theorem exec_resets_of_second {i : Instr} (ok : s.cfg.ok = true) (heater : i ∈ heaterOps) {b : Byte}
    (read : s.repliesByte s.cfg.aHeater (some b)) (reset : ResetAround s.secondBus.before s.secondBus.after) : Resets s.cfg (exec i s) := by
  have fits : s.cfg.aHeater.toNat < 128 := Cfg.base_lt ok (by simp [Cfg.bases])
  obtain rfl | rfl : i = .htron ∨ i = .htroff := by simpa [heaterOps] using heater
  · exact Resets.heaterRmw (s := s.heatingBegun) fits read reset
  · exact Resets.heaterRmw fits read reset

end

/-- Settles O1: the table is that of `State.reset`; then each point at which `RESET` may come. -/
theorem resetRestoresBlock : Obligations.ResetRestoresBlock := by
  refine ⟨⟨rfl, rfl, rfl, rfl, rfl, rfl, rfl, rfl, rfl, rfl, rfl⟩, fun s ok => ⟨fun event => ?_, fun i bus reset => ?_,
    fun i heater b read reset => ?_, fun hasH hasC hasF reset => ?_, fun i wait reset => ?_⟩⟩
  · exact ⟨_, step_of_reset ok event, rfl, rfl, rfl⟩
  · exact exec_resets_of_first ok bus reset
  · exact exec_resets_of_second ok heater read reset
  · obtain ⟨h, eqh⟩ := Option.isSome_iff_exists.1 hasH
    obtain ⟨c, eqc⟩ := Option.isSome_iff_exists.1 hasC
    obtain ⟨f, eqf⟩ := Option.isSome_iff_exists.1 hasF
    rw [exec_emit eqh eqc eqf]
    exact Resets.sinkRequest reset
  · obtain rfl | rfl : i = .dwell ∨ i = .sleep := by simpa using wait
    · exact Resets.wait (s := s.loadTimer s.cfg.dwellTicks) reset
    · exact Resets.wait (s := s.loadTimer s.cfg.cycleTicks) reset

end Sys2Proof.Machine
